-- ==== Sys2Proof/Word.lean ====
section
/-! DEFINITION. The words of the DC-64's link and store, and tables of fixed size indexed by number. -/

namespace Sys2Proof

/-- A byte of a frame's payload, of a record or of the configuration block. -/
abbrev Byte := BitVec 8

/-- A station's address as sent in a frame (R164) and set on straps (R219). -/
abbrev Address := BitVec 6

/-- A division number as set on straps (R219). -/
abbrev Division := BitVec 4

/-- A stop number, 0 to 63 (00_scope.md, Conventions). -/
abbrev StopNo := Fin 64

/-- One value for each stop 0 to 63. -/
abbrev Stops (α : Type) := Vector α 64

/-- The 16 entry bytes of a record (R31). -/
abbrev EntryBytes := Vector Byte 16

/-- A set of stops, given as which stops it contains (00_scope.md, Conventions). -/
abbrev StopSet := Stops Bool

/-- The set with no stop. -/
def StopSet.empty : StopSet := Vector.replicate 64 false

/-- The table whose value at each place is `f` of that place. -/
def table {α : Type} {k : Nat} (f : Fin k → α) : Vector α k := Vector.ofFn f

/-- The table `v` with `x` at place `i`. -/
def put {α : Type} {k : Nat} (v : Vector α k) (i : Fin k) (x : α) : Vector α k := v.set i.val x i.isLt

end Sys2Proof
end

