-- ==== Sys2Proof/Syntax.lean ====
section
/-! DEFINITION. The commands of the DC-64: one constructor for each row of spec/opcode_table.json, with the
operands its rules give it. A command that stands for a frame taken carries the sender's address and the
payload bytes in the order of R169. -/

namespace Sys2Proof

/-- The eleven straps (R219). -/
structure Straps where
  address : Address
  division : Division
  shoeHost : Bool
deriving DecidableEq, Repr

/-- One of the 88 contacts of the scanner (R147). -/
inductive Contact where
  | stop (n : StopNo)
  | piston (i : Fin 16)
  | aux (j : Fin 8)
deriving DecidableEq, Repr

/-- A lamp that can blink: a piston lamp (R93) or the service lamp (R192). -/
inductive BlinkLamp where
  | piston (i : Fin 16)
  | service
deriving DecidableEq, Repr

/-- A frame as assembled from the line, its stuff bits, check and end field taken off (R164). The length field
is the number of payload bytes. -/
structure RawFrame where
  cls : BitVec 3
  sender : Address
  kind : BitVec 5
  payload : List Byte
deriving DecidableEq, Repr

/-- What the array holds for one record: its 16 entry bytes and its check byte (R31). -/
structure ArrayBytes where
  bytes : EntryBytes
  check : Byte
deriving DecidableEq, Repr

/-- The commands, in the order of spec/opcode_table.json. -/
inductive Instr where
  /-- POWER_ON (R223), with the straps as they stand. -/
  | powerOn (straps : Straps)
  /-- RESET_LINE (R223), with the straps as they stand. -/
  | resetLine (straps : Straps)
  /-- RESET_RELEASE (R224). -/
  | resetRelease
  /-- ENTER_RUNNING (R225), with the sensor's reading for the first sample (R110). -/
  | enterRunning (reading : Nat)
  /-- ENTER_HAND_ONLY (R226). -/
  | enterHandOnly
  /-- START_WAIT_END (R81). -/
  | startWaitEnd
  /-- SUPPLY_FALL (R228). -/
  | supplyFall
  /-- SUPPLY_RECOVERY (R228). -/
  | supplyRecovery
  /-- CUT_HOLD_END (R80). -/
  | cutHoldEnd
  /-- CONTACT_CHANGE (R147): the raw contact takes the value closed or open. -/
  | contactChange (contact : Contact) (closed : Bool)
  /-- STOP_SENSE_CHANGE (R149): the stop's debounce timer expires. -/
  | stopSenseChange (n : StopNo)
  /-- RECALL_PRESS (R153). -/
  | recallPress (i : Fin 16)
  /-- CAPTURE_PRESS (R157). -/
  | capturePress (i : Fin 16)
  /-- PISTON_RELEASE (R150): a piston or auxiliary input opens. -/
  | pistonRelease (contact : Contact)
  /-- SET_PRESS (R152). -/
  | setPress (j : Fin 8)
  /-- GENERAL_CANCEL_PRESS (R158). -/
  | generalCancelPress (j : Fin 8)
  /-- DIVISIONAL_CANCEL_PRESS (R158). -/
  | divisionalCancelPress (j : Fin 8)
  /-- STEP_NEXT_PRESS (R159). -/
  | stepNextPress (j : Fin 8)
  /-- STEP_PREV_PRESS (R159). -/
  | stepPrevPress (j : Fin 8)
  /-- LEVEL_UP_PRESS (R160). -/
  | levelUpPress (j : Fin 8)
  /-- LEVEL_DOWN_PRESS (R160). -/
  | levelDownPress (j : Fin 8)
  /-- TUTTI_PRESS (R161). -/
  | tuttiPress (j : Fin 8)
  /-- PROGRAM_PRESS (R122, R162). -/
  | programPress (j : Fin 8)
  /-- LINK_IDLE (R167). -/
  | linkIdle
  /-- ARBITRATION_LOST (R171): the arbitration field that stood on the line. -/
  | arbitrationLost (field : BitVec 9)
  /-- READBACK_MISMATCH (R172). -/
  | readbackMismatch
  /-- FORMAT_ERROR (R175): the bits read, from the start bit on. -/
  | formatError (bits : List Bool)
  /-- BAD_CHECK (R176): the bits read, from the start bit to the end of the end field. -/
  | badCheck (bits : List Bool)
  /-- UNKNOWN_KIND (R177, R179): the frame taken. -/
  | unknownKind (frame : RawFrame)
  /-- GENERAL_RECALL (R12). -/
  | generalRecall (sender : Address) (division piston level serial origin : Byte)
  /-- DIVISIONAL_RECALL (R13). -/
  | divisionalRecall (sender : Address) (division piston level serial origin : Byte)
  /-- GENERAL_CANCEL (R15). -/
  | generalCancel (sender : Address) (division : Byte)
  /-- DIVISIONAL_CANCEL (R16). -/
  | divisionalCancel (sender : Address) (division : Byte)
  /-- GENERAL_CAPTURE (R17). -/
  | generalCapture (sender : Address) (division piston level serial : Byte)
  /-- DIVISIONAL_CAPTURE (R19). -/
  | divisionalCapture (sender : Address) (division piston level serial : Byte)
  /-- DEVIATE (R88). -/
  | deviate (sender : Address) (scope division tagAddress tagSerial : Byte)
  /-- LEVEL (R104). -/
  | level (sender : Address) (level : Byte)
  /-- LOCK (R52). -/
  | lock (sender : Address) (level locked : Byte)
  /-- SHOE (R131). -/
  | shoe (sender : Address) (program stage : Byte)
  /-- TUTTI_ON (R137): a state byte other than 0. -/
  | tuttiOn (sender : Address) (state level : Byte)
  /-- TUTTI_OFF (R139): the state byte is 0. -/
  | tuttiOff (sender : Address) (level : Byte)
  /-- SERVICE_MODE_ON (R203): an on byte other than 0. -/
  | serviceModeOn (sender : Address) (target on clearChanged : Byte)
  /-- SERVICE_MODE_OFF (R203): the on byte is 0. -/
  | serviceModeOff (sender : Address) (target clearChanged : Byte)
  /-- STORE_POINT_READ (R206): the which byte is 0. -/
  | storePointRead (sender : Address) (target high low : Byte)
  /-- STORE_POINT_WRITE (R206): a which byte other than 0. -/
  | storePointWrite (sender : Address) (target which high low : Byte)
  /-- STORE_WRITE (R208): the data bytes after the target, so one fewer than the frame's length. -/
  | storeWrite (sender : Address) (target : Byte) (data : List Byte)
  /-- STORE_READ (R211). -/
  | storeRead (sender : Address) (target count : Byte)
  /-- CHANGED_SCAN (R214). -/
  | changedScan (sender : Address) (target high low : Byte)
  /-- CONFIG_WRITE (R216): the data bytes after the target and the offset. -/
  | configWrite (sender : Address) (target offset : Byte) (data : List Byte)
  /-- FAULT_CLEAR (R217). -/
  | faultClear (sender : Address) (target high low : Byte)
  /-- RESTART (R218). -/
  | restart (sender : Address) (target : Byte)
  /-- FAULT_NOTE (R200). -/
  | faultNote (sender : Address) (high low count : Byte)
  /-- STORE_DATA_TAKEN (R178). -/
  | storeDataTaken (sender : Address) (part : Byte) (data : List Byte)
  /-- SCAN_REPLY_TAKEN (R178). -/
  | scanReplyTaken (sender : Address) (found high low : Byte)
  /-- STORE_DATA (R212). -/
  | storeData
  /-- SCAN_REPLY (R214). -/
  | scanReply
  /-- FAULT_NOTE_RETRY (R201). -/
  | faultNoteRetry
  /-- WRITE_VERIFY (R46): what the array reads back, or `none` where it reads back as meant. -/
  | writeVerify (readBack : Option ArrayBytes)
  /-- FORCING_WRITE_END (R47): what the array then holds, or `none` where the forcing write took. -/
  | forcingWriteEnd (held : Option ArrayBytes)
  /-- PULSE_EXPIRY (R63). -/
  | pulseExpiry (n : StopNo)
  /-- SETTLE_CHECK (R64). -/
  | settleCheck (n : StopNo)
  /-- REST_EXPIRY (R68). -/
  | restExpiry (n : StopNo)
  /-- SHOE_SAMPLE (R109), with the sensor's reading. -/
  | shoeSample (reading : Nat)
  /-- FOLLOWER_EXPIRY (R120): a sample, with the sensor's reading, at which the follower count expires. -/
  | followerExpiry (reading : Nat)
  /-- REFRESH_EXPIRY (R125). -/
  | refreshExpiry
  /-- SILENCE_PERIOD (R133). -/
  | silencePeriod
  /-- SILENCE_EXPIRY (R134). -/
  | silenceExpiry
  /-- SHIFT_END (R190). -/
  | shiftEnd
  /-- BLINK_PHASE (R192). -/
  | blinkPhase (lamp : BlinkLamp)
  /-- BLINK_END (R93). -/
  | blinkEnd (i : Fin 16)
  /-- FAULT_PULSE_END (R198). -/
  | faultPulseEnd
  /-- SUPPLY_LOST (R228). -/
  | supplyLost
  /-- START_BIT_READ (R175). -/
  | startBitRead
  /-- PRESS_IGNORED (R150, R148): a closing of a piston or auxiliary input that makes no press effect. -/
  | pressIgnored (contact : Contact)
deriving DecidableEq, Repr

end Sys2Proof
end

