-- ==== Sys2Proof/WellFormed.lean ====
section
/-! DEFINITION. Which commands can stand for an event of the block at all: the operand ranges that the types of
Syntax.lean leave open. A command that is not well formed has no effect (log 4). -/

namespace Sys2Proof

/-- A contact that has a press latch: a piston or auxiliary input (R150, R151). -/
def Contact.hasLatch : Contact → Bool
  | .stop _ => false
  | .piston _ => true
  | .aux _ => true

/-- The operand ranges of the rules: a sensor reading is 0 to 1023 (R109), the byte that tells a row from its
sister row has that row's value (R169), and a payload has a length its kind allows (R168). -/
def Instr.wellFormed : Instr → Bool
  | .enterRunning x => decide (x ≤ 1023)
  | .shoeSample x => decide (x ≤ 1023)
  | .followerExpiry x => decide (x ≤ 1023)
  | .pistonRelease c => c.hasLatch
  | .pressIgnored c => c.hasLatch
  | .unknownKind f => decide (f.payload.length ≤ 8)
  | .tuttiOn _ state _ => state != 0
  | .serviceModeOn _ _ on _ => on != 0
  | .storePointWrite _ _ which _ _ => which != 0
  | .storeWrite _ _ data => decide (data.length ≤ 7)
  | .configWrite _ _ _ data => decide (1 ≤ data.length) && decide (data.length ≤ 6)
  | .storeDataTaken _ _ data => decide (data.length = 4) || decide (data.length = 6)
  | _ => true

end Sys2Proof
end

