-- ==== Sys2Proof/Decode.lean ====
section
/-! DEFINITION. From a frame of the console link to the command it stands for, and back (R168, R169), and the
reading of a word of spec/opcode_table.json, whose rows give no bits. -/

namespace Sys2Proof

/-- The frame kinds of R168. -/
inductive FrameKind where
  | cancel | recall | tutti | shoe | capture | level | lock | deviate | serviceMode | storePoint
  | storeWrite | storeRead | storeData | changedScan | scanReply | configWrite | faultClear | restart | faultNote
deriving DecidableEq, Repr

/-- The kind code (R168). -/
def FrameKind.code : FrameKind → BitVec 5
  | .cancel => 0x01#5
  | .recall => 0x02#5
  | .tutti => 0x03#5
  | .shoe => 0x04#5
  | .capture => 0x05#5
  | .level => 0x06#5
  | .lock => 0x07#5
  | .deviate => 0x08#5
  | .serviceMode => 0x10#5
  | .storePoint => 0x11#5
  | .storeWrite => 0x12#5
  | .storeRead => 0x13#5
  | .storeData => 0x14#5
  | .changedScan => 0x15#5
  | .scanReply => 0x16#5
  | .configWrite => 0x17#5
  | .faultClear => 0x18#5
  | .restart => 0x19#5
  | .faultNote => 0x1E#5

/-- The class of a kind (R168). -/
def FrameKind.cls : FrameKind → BitVec 3
  | .cancel => 0#3
  | .recall => 1#3
  | .tutti => 2#3
  | .shoe => 3#3
  | .capture | .level | .lock => 4#3
  | .deviate => 5#3
  | .serviceMode | .storePoint | .storeWrite | .storeRead | .storeData | .changedScan | .scanReply
  | .configWrite | .faultClear | .restart => 6#3
  | .faultNote => 7#3

/-- Whether a kind allows a payload of `n` bytes (R168). -/
def FrameKind.allows : FrameKind → Nat → Bool
  | .cancel, n => n == 2
  | .recall, n => n == 6
  | .tutti, n => n == 2
  | .shoe, n => n == 2
  | .capture, n => n == 5
  | .level, n => n == 1
  | .lock, n => n == 2
  | .deviate, n => n == 4
  | .serviceMode, n => n == 3
  | .storePoint, n => n == 4
  | .storeWrite, n => decide (1 ≤ n) && decide (n ≤ 8)
  | .storeRead, n => n == 2
  | .storeData, n => n == 5 || n == 7
  | .changedScan, n => n == 3
  | .scanReply, n => n == 3
  | .configWrite, n => decide (3 ≤ n) && decide (n ≤ 8)
  | .faultClear, n => n == 3
  | .restart, n => n == 1
  | .faultNote, n => n == 3

/-- The kinds in the order of R168. -/
def frameKinds : List FrameKind :=
  [.cancel, .recall, .tutti, .shoe, .capture, .level, .lock, .deviate, .serviceMode, .storePoint, .storeWrite,
    .storeRead, .storeData, .changedScan, .scanReply, .configWrite, .faultClear, .restart, .faultNote]

/-- The kind a code names, if any (R168: the other codes are unknown kinds). -/
def kindOfCode (code : BitVec 5) : Option FrameKind := frameKinds.find? fun k => k.code == code

/-- The kind of a frame whose kind code is known, whose class is its kind's and whose length its kind allows:
a frame that R177 does not turn away. -/
def RawFrame.knownKind (f : RawFrame) : Option FrameKind :=
  (kindOfCode f.kind).filter fun k => k.cls == f.cls && k.allows f.payload.length

/-- The frame of a kind from a sender with a payload. -/
def FrameKind.frame (k : FrameKind) (sender : Address) (payload : List Byte) : RawFrame :=
  ⟨k.cls, sender, k.code, payload⟩

/-- The command that a taken frame stands for (R169). A RECALL, CAPTURE or CANCEL of a scope above 1 (R179) and
a frame that R177 turns away stand for UNKNOWN_KIND. -/
def commandOf (f : RawFrame) : Instr :=
  match f.knownKind, f.payload with
  | some .cancel, [scope, d] =>
    if scope = 0#8 then .generalCancel f.sender d
    else if scope = 1#8 then .divisionalCancel f.sender d else .unknownKind f
  | some .recall, [scope, d, p, l, n, o] =>
    if scope = 0#8 then .generalRecall f.sender d p l n o
    else if scope = 1#8 then .divisionalRecall f.sender d p l n o else .unknownKind f
  | some .tutti, [state, l] => if state = 0#8 then .tuttiOff f.sender l else .tuttiOn f.sender state l
  | some .shoe, [p, st] => .shoe f.sender p st
  | some .capture, [scope, d, p, l, n] =>
    if scope = 0#8 then .generalCapture f.sender d p l n
    else if scope = 1#8 then .divisionalCapture f.sender d p l n else .unknownKind f
  | some .level, [l] => .level f.sender l
  | some .lock, [l, k] => .lock f.sender l k
  | some .deviate, [scope, d, a, n] => .deviate f.sender scope d a n
  | some .serviceMode, [t, on, c] =>
    if on = 0#8 then .serviceModeOff f.sender t c else .serviceModeOn f.sender t on c
  | some .storePoint, [t, w, hi, lo] =>
    if w = 0#8 then .storePointRead f.sender t hi lo else .storePointWrite f.sender t w hi lo
  | some .storeWrite, t :: data => .storeWrite f.sender t data
  | some .storeRead, [t, c] => .storeRead f.sender t c
  | some .storeData, p :: data => .storeDataTaken f.sender p data
  | some .changedScan, [t, hi, lo] => .changedScan f.sender t hi lo
  | some .scanReply, [found, hi, lo] => .scanReplyTaken f.sender found hi lo
  | some .configWrite, t :: o :: data => .configWrite f.sender t o data
  | some .faultClear, [t, hi, lo] => .faultClear f.sender t hi lo
  | some .restart, [t] => .restart f.sender t
  | some .faultNote, [hi, lo, c] => .faultNote f.sender hi lo c
  | _, _ => .unknownKind f

/-- The frame a command stands for, if it is a frame taken (R168, R169). -/
def frameOf : Instr → Option RawFrame
  | .unknownKind f => some f
  | .generalRecall a d p l n o => some (FrameKind.recall.frame a [0#8, d, p, l, n, o])
  | .divisionalRecall a d p l n o => some (FrameKind.recall.frame a [1#8, d, p, l, n, o])
  | .generalCancel a d => some (FrameKind.cancel.frame a [0#8, d])
  | .divisionalCancel a d => some (FrameKind.cancel.frame a [1#8, d])
  | .generalCapture a d p l n => some (FrameKind.capture.frame a [0#8, d, p, l, n])
  | .divisionalCapture a d p l n => some (FrameKind.capture.frame a [1#8, d, p, l, n])
  | .deviate a sc d ta n => some (FrameKind.deviate.frame a [sc, d, ta, n])
  | .level a l => some (FrameKind.level.frame a [l])
  | .lock a l k => some (FrameKind.lock.frame a [l, k])
  | .shoe a p st => some (FrameKind.shoe.frame a [p, st])
  | .tuttiOn a st l => some (FrameKind.tutti.frame a [st, l])
  | .tuttiOff a l => some (FrameKind.tutti.frame a [0#8, l])
  | .serviceModeOn a t on c => some (FrameKind.serviceMode.frame a [t, on, c])
  | .serviceModeOff a t c => some (FrameKind.serviceMode.frame a [t, 0#8, c])
  | .storePointRead a t hi lo => some (FrameKind.storePoint.frame a [t, 0#8, hi, lo])
  | .storePointWrite a t w hi lo => some (FrameKind.storePoint.frame a [t, w, hi, lo])
  | .storeWrite a t data => some (FrameKind.storeWrite.frame a (t :: data))
  | .storeRead a t c => some (FrameKind.storeRead.frame a [t, c])
  | .changedScan a t hi lo => some (FrameKind.changedScan.frame a [t, hi, lo])
  | .configWrite a t o data => some (FrameKind.configWrite.frame a (t :: o :: data))
  | .faultClear a t hi lo => some (FrameKind.faultClear.frame a [t, hi, lo])
  | .restart a t => some (FrameKind.restart.frame a [t])
  | .faultNote a hi lo c => some (FrameKind.faultNote.frame a [hi, lo, c])
  | .storeDataTaken a p data => some (FrameKind.storeData.frame a (p :: data))
  | .scanReplyTaken a found hi lo => some (FrameKind.scanReply.frame a [found, hi, lo])
  | _ => none

/-- The command that a word of spec/opcode_table.json spells. No row of the table gives bits, so no word spells
one. -/
def decodeTableWord (_nbits _w : Nat) : Option Instr := none

end Sys2Proof
end

