-- ==== Sys2Proof/Machine/State.lean ====
section
/-! DEFINITION. The state of the node, block by block, as plain data, and the state right after a power-on start. -/

namespace Sys2Proof.Machine

/-- The rules name no event that stops the node for good: trouble is a fault flag of State (R193), and no
command ends in a fault. So there is no constructor. -/
inductive Fault where
deriving DecidableEq, Repr

/-- Why a command has no meaning in this model. -/
inductive Refusal where
  /-- Raised by an arm of Machine/Dispatch.lean whose command has no meaning yet. Safe: nothing is claimed. -/
  | notModelled (mnemonic : String)
deriving DecidableEq, Repr

/-! ### The node, its pins and its configuration -/

/-- How far a start has come (R224). -/
inductive StartPhase where
  /-- Step 1 is done; the start holds before step 2 while the reset line is active. -/
  | lineHeld
  /-- Step 2 is finishing the write in progress and its verify (R48). -/
  | storeFinishing
  /-- Steps 1 to 6 are done; step 7 enters HAND_ONLY if the check found a configuration fault. -/
  | ready (configFault : Bool)
deriving DecidableEq, Repr

/-- The node state. `unpowered` is the node between a supply loss and the next power-on (R228). -/
inductive NodeState where
  | unpowered
  | starting (phase : StartPhase)
  | running
  | handOnly
deriving DecidableEq, Repr

/-- The straps, the reset line and the supply as they stand at the node (R219, R224, R228). -/
structure Pins where
  straps : Straps
  resetActive : Bool
  supplyGood : Bool
  /-- How the coming strap readings find the straps, the next first: a strap moved by hand before a start reads it
  (R219). An input from outside, like the waiting commands: DESIGN CHOICE (log 9). -/
  strapsToCome : List Straps
deriving DecidableEq, Repr

/-- The straps as the next strap reading finds them: where no move is to come, as they stand (R219; log 9). -/
def Pins.strapReading (p : Pins) : Straps := p.strapsToCome.headD p.straps

/-- The pins after a strap reading: the straps stand as it found them. -/
def Pins.afterReading (p : Pins) : Pins := { p with straps := p.strapReading, strapsToCome := p.strapsToCome.tail }

/-- A piston as a piston map entry names it (R83). -/
inductive Piston where
  | general (g : Nat)
  | divisional (division : Division) (d : Nat)
deriving DecidableEq, Repr

/-- The function of an auxiliary input (R151). -/
inductive AuxFunction where
  | unused
  | set
  | generalCancel
  | divisionalCancel (division : Division)
  | stepNext
  | stepPrev
  | levelUp
  | levelDown
  | tutti
  | program (k : Fin 4)
deriving DecidableEq, Repr

/-- The shoe items of the configuration block, clamped (R107, R222). -/
structure ShoeConfig where
  heel : Nat
  toe : Nat
  heelBand : Nat
  toeBand : Nat
  filter : Nat
  stages : Nat
  hysteresis : Nat
  follower : Nat
deriving DecidableEq, Repr

/-- The configuration as read at start, clamped (R220, R222). A node that is no shoe host reads no shoe items. -/
structure NodeConfig where
  stops : Nat
  pulseMs : Nat
  settleMs : Nat
  budget : Nat
  sequence : Nat
  coalesceLast : Bool
  pulseLine : Bool
  excluded : StopSet
  pistons : Vector (Option Piston) 16
  aux : Vector AuxFunction 8
  shoe : Option ShoeConfig
deriving DecidableEq, Repr

/-! ### The combination store -/

/-- A record of the array (R31). -/
structure Record where
  bytes : EntryBytes
  check : Byte
  written : Bool
  changed : Bool
deriving DecidableEq, Repr

/-- Who offered a write (R41). -/
inductive Source where
  | capture
  | service
deriving DecidableEq, Repr

/-- An entry of the store write list (R41). -/
structure WriteEntry where
  index : Nat
  bytes : EntryBytes
  source : Source
deriving DecidableEq, Repr

/-- What the store is doing with the head entry (R45 to R47). -/
inductive WriteStage where
  | storing
  | forcing
deriving DecidableEq, Repr

/-- The record array: records by index, indices strictly rising, no entry equal to the factory record that an
unlisted index reads as (R31, log 28). -/
abbrev Memory := List (Nat × Record)

/-- The combination store (R31, R41, R51). -/
structure Store where
  array : Memory
  writes : List WriteEntry
  stage : Option WriteStage
  locks : Vector Bool 128
deriving DecidableEq, Repr

/-! ### The contact scanner -/

/-- One input of the scanner: raw contact, debounced value and debounce timer (R147). The press latch of a
piston or auxiliary input is its debounced value (R150). -/
structure Debounce where
  raw : Bool
  value : Bool
  timer : Option Nat
deriving DecidableEq, Repr

/-- The 88 inputs (R147). -/
structure Scanner where
  stops : Stops Debounce
  pistons : Vector Debounce 16
  aux : Vector Debounce 8
deriving DecidableEq, Repr

/-! ### The registration resolver -/

/-- The tag of a RECALL or CAPTURE (R3). -/
structure Tag where
  address : Address
  serial : Byte
deriving DecidableEq, Repr

/-- Scope of a piston or frame. -/
inductive Scope where
  | general
  | divisional
deriving DecidableEq, Repr

/-- An entry of a combination record as read (R33). -/
inductive Entry where
  | leave
  | draw
  | retire
deriving DecidableEq, Repr

/-- A reference (R2). -/
structure Reference where
  tag : Tag
  piston : Nat
  entries : Stops Entry
  departed : Bool
  dark : Bool
deriving DecidableEq, Repr

/-- A lamp reference (R86). -/
structure LampReference where
  tag : Tag
  piston : Nat
  dark : Bool
deriving DecidableEq, Repr

/-- The silence state (R133), with what is left of the 500 ms period. -/
inductive Silence where
  | waiting
  | fed (count timer : Nat)
  | silent
deriving DecidableEq, Repr

/-- The resolver (R1 to R5, R86, R129). -/
structure Resolver where
  drawn : StopSet
  speaking : StopSet
  general : Option Reference
  divisional : Option Reference
  lampRefs : Vector (Option LampReference) 16
  serial : Byte
  lastGeneral : Option (Nat × Nat)
  level : Nat
  program : Nat
  stage : Nat
  addition : StopSet
  silence : Silence
  crescendoLamp : Bool
  tutti : Bool
  tuttiLevel : Nat
  tuttiAdd : StopSet
  tuttiSilence : StopSet
  tuttiLamp : Bool
deriving DecidableEq, Repr

/-! ### The coil sequencer -/

/-- Which attempt a move is on (R56). -/
inductive Attempt where
  | first
  | second
deriving DecidableEq, Repr

/-- Where a stop is in its move (R56). A direction is on (`true`) or off (`false`). -/
inductive Motion where
  | atRest
  | queued (direction : Bool) (attempt : Attempt)
  | pulsing (direction : Bool) (attempt : Attempt) (timer : Nat)
  | settling (direction : Bool) (attempt : Attempt) (timer : Nat)
  | resting (cut direction : Bool) (awaiting : Option Bool) (timer : Nat)
deriving DecidableEq, Repr

/-- A motion record (R56). The field the manual calls pending is `awaiting`. -/
structure MotionRecord where
  motion : Motion
  stuck : Bool
deriving DecidableEq, Repr

/-- The coil sequencer (R56, R58, R80, R81). -/
structure Sequencer where
  motions : Stops MotionRecord
  moves : List StopNo
  cutHold : Option Nat
  startWait : Option Nat
deriving DecidableEq, Repr

/-! ### The link interface -/

/-- The line state (R167). -/
inductive Line where
  | seeking
  | idle
  | frame
  | gap
deriving DecidableEq, Repr

/-- What an entry of the transmit queue carries. A late-bound frame holds no payload here (R170, R181). -/
inductive Body where
  | cancel (scope : Scope) (division : Byte)
  | recall (scope : Scope) (division piston level serial : Byte)
  | step (forward : Bool) (serial : Byte)
  | tutti
  | shoe (division : Division) (program stage : Byte)
  | capture (scope : Scope) (division piston level serial : Byte)
  | level (up : Bool)
  | deviate (scope : Scope) (tag : Tag)
  | storeData (part : Byte) (data : List Byte)
  | scanReply (found high low : Byte)
  | faultNote
deriving DecidableEq, Repr

/-- An entry of the transmit queue (R181, R184). -/
structure QueueEntry where
  body : Body
  age : Nat
  underWay : Bool
  merged : Bool
deriving DecidableEq, Repr

/-- The link interface. `sending` is the frame this node has on the line, with the payload bound at the start of
the attempt (R170). -/
structure Link where
  line : Line
  sending : Option RawFrame
  queue : List QueueEntry
  admitted : Nat
deriving DecidableEq, Repr

/-! ### Outputs, faults, service access and the shoe unit -/

/-- The two blinks of a piston lamp (R93). -/
inductive BlinkKind where
  | slow
  | fast
deriving DecidableEq, Repr

/-- A running blink: the phases left, the present one among them, and what is left of it (R192). -/
structure Blink where
  kind : BlinkKind
  phases : Nat
  timer : Nat
deriving DecidableEq, Repr

/-- A piston lamp: its steady value and the blink that runs, if any (R84). -/
structure Lamp where
  steady : Bool
  blink : Option Blink
deriving DecidableEq, Repr

/-- The output drivers (R84, R188, R191). `serviceBlink` is the service lamp's blink in HAND_ONLY: lit or dark,
and what is left of the phase. -/
structure Outputs where
  latched : StopSet
  dirty : Bool
  shift : Option StopSet
  lamps : Vector Lamp 16
  serviceBlink : Option (Bool × Nat)
deriving DecidableEq, Repr

/-- The start cause (R200). -/
inductive StartCause where
  | none
  | power
  | line
  | link
deriving DecidableEq, Repr

/-- The fault set (R193). The ten flags stand in the bit order of a FAULT-NOTE (R169). `retryDue`: a place of
the queue has freed since the pending FAULT-NOTE was last offered (R201). -/
structure Faults where
  flags : BitVec 10
  stuckCount : Nat
  cause : StartCause
  notePending : Bool
  retryDue : Bool
  pulse : Option Nat
deriving DecidableEq, Repr

/-- A pointer of service access (R205). -/
structure Pointer where
  index : Nat
  part : Nat
deriving DecidableEq, Repr

/-- Service access (R203, R205, R214). -/
structure Service where
  mode : Bool
  readPointer : Pointer
  writePointer : Pointer
  received : List Byte
  readCopy : Option EntryBytes
  outstanding : Nat
  scan : Option Nat
deriving DecidableEq, Repr

/-- The state of the shoe unit (R105). -/
inductive ShoeUnit where
  | inactive
  | off
  | active
deriving DecidableEq, Repr

/-- The shoe unit (R106). -/
structure Shoe where
  unit : ShoeUnit
  filter : Option Nat
  reading : Option Nat
  position : Option Nat
  target : Nat
  displayed : Nat
  program : Nat
  firstDone : Bool
  follower : Option Nat
  refresh : Option Nat
deriving DecidableEq, Repr

/-! ### The whole state -/

/-- The node. `blockWrite` is the offset and count of a CONFIG-WRITE that no later frame has sealed yet (R216),
`freeNext` counts the free values used (log 10), `pending` is the queue of commands. -/
structure State where
  node : NodeState
  pins : Pins
  straps : Straps
  config : NodeConfig
  block : Vector Byte 128
  blockWrite : Option (Nat × Nat)
  store : Store
  scanner : Scanner
  resolver : Resolver
  sequencer : Sequencer
  link : Link
  outputs : Outputs
  faults : Faults
  service : Service
  shoe : Shoe
  freeNext : Nat
  pending : List Instr
deriving DecidableEq, Repr

/-! ### Right after reset -/

/-- Strap pins before anyone sets them: DESIGN CHOICE, unsafe (log 1). -/
def initialStraps : Straps := ⟨1#6, 0#4, false⟩

/-- The factory record (R31). -/
def Record.factory : Record := ⟨Vector.replicate 16 0#8, 0#8, false, false⟩

/-- The factory configuration block (R220). -/
def factoryBlock : Vector Byte 128 :=
  table fun k => match k.val with
    | 0 => 64#8
    | 1 => 60#8
    | 2 => 30#8
    | 3 => 8#8
    | 4 => 48#8
    | 5 => 1#8
    | 8 => 3#8
    | 9 => 255#8
    | 12 => 2#8
    | 13 => 20#8
    | 14 => 10#8
    | 127 => 11#8
    | _ => 0#8

/-- The factory block as a node that is no shoe host reads it (R220). -/
def NodeConfig.factory : NodeConfig where
  stops := 64
  pulseMs := 60
  settleMs := 30
  budget := 8
  sequence := 48
  coalesceLast := true
  pulseLine := false
  excluded := StopSet.empty
  pistons := Vector.replicate 16 none
  aux := Vector.replicate 8 .unused
  shoe := none

/-- The store as it leaves the factory (R31, R41, R51). -/
def Store.factory : Store := ⟨[], [], none, Vector.replicate 128 false⟩

/-- An open contact (DESIGN CHOICE, unsafe, log 2) as the start reads it (R148). -/
def Debounce.initial : Debounce := ⟨false, false, none⟩

/-- The scanner with every contact open (log 2). -/
def Scanner.initial : Scanner :=
  ⟨Vector.replicate 64 Debounce.initial, Vector.replicate 16 Debounce.initial, Vector.replicate 8 Debounce.initial⟩

/-- The resolver's values after any start (R1 to R5, R86, R129), before the drawn image is loaded (R225). -/
def Resolver.initial : Resolver where
  drawn := StopSet.empty
  speaking := StopSet.empty
  general := none
  divisional := none
  lampRefs := Vector.replicate 16 none
  serial := 0#8
  lastGeneral := none
  level := 0
  program := 0
  stage := 0
  addition := StopSet.empty
  silence := .waiting
  crescendoLamp := false
  tutti := false
  tuttiLevel := 0
  tuttiAdd := StopSet.empty
  tuttiSilence := StopSet.empty
  tuttiLamp := false

/-- The sequencer right after the cut that begins a start (R57, R81). -/
def Sequencer.initial : Sequencer := ⟨Vector.replicate 64 ⟨.atRest, false⟩, [], none, some 20⟩

/-- The link interface after any start (R181, R187). -/
def Link.initial : Link := ⟨.seeking, none, [], 0⟩

/-- A dark lamp (R84). -/
def Lamp.dark : Lamp := ⟨false, none⟩

/-- The output drivers after a power-on (R84, R188). -/
def Outputs.initial : Outputs := ⟨StopSet.empty, true, none, Vector.replicate 16 Lamp.dark, none⟩

/-- The fault set after a power-on (R193, R200). -/
def Faults.initial : Faults := ⟨0#10, 0, .power, false, false, none⟩

/-- Service access after any start (R203, R205). -/
def Service.initial : Service := ⟨false, ⟨0, 0⟩, ⟨0, 0⟩, [], none, 0, none⟩

/-- The shoe unit after any start (R106). -/
def Shoe.initial : Shoe := ⟨.inactive, none, none, none, 0, 0, 0, false, none, none⟩

/-- The node right after reset: a power-on start of a factory node has taken its values (R224, steps 1 to 6)
and has not yet left STARTING (log 3). -/
def State.reset : State where
  node := .starting (.ready false)
  pins := ⟨initialStraps, false, true, []⟩
  straps := initialStraps
  config := NodeConfig.factory
  block := factoryBlock
  blockWrite := none
  store := Store.factory
  scanner := Scanner.initial
  resolver := Resolver.initial
  sequencer := Sequencer.initial
  link := Link.initial
  outputs := Outputs.initial
  faults := Faults.initial
  service := Service.initial
  shoe := Shoe.initial
  freeNext := 0
  pending := []

end Sys2Proof.Machine
end

