-- ==== Sys2Proof/Machine/Operands.lean ====
section
/-! DEFINITION. How the rules read numbers, records and frame fields: record indices, entry codes, check bytes,
the parts of a record, the ranges of frame fields and the binding of steps and levels. -/

namespace Sys2Proof.Machine

/-- A two-byte value, high byte first (R169, R220). -/
def twoBytes (high low : Byte) : Nat := high.toNat * 256 + low.toNat

/-- The low byte of a number. -/
def lowByte (n : Nat) : Byte := BitVec.ofNat 8 n

/-- The high byte of a two-byte number. -/
def highByte (n : Nat) : Byte := BitVec.ofNat 8 (n / 256)

/-! ### Record indices (R32) -/

/-- How many records the store holds (R31). -/
def recordCount : Nat := 7936

/-- The last record index (R31). -/
def lastIndex : Nat := 7935

/-- The index of the general record of a level and a G number (R32). -/
def generalIndex (level g : Nat) : Nat := level * 48 + (g - 1)

/-- The index of the divisional record of a level and a D number (R32). -/
def divisionalIndex (level d : Nat) : Nat := 6144 + level * 12 + (d - 1)

/-- The index of a crescendo stage record (R32). -/
def stageIndex (program stage : Nat) : Nat := 7680 + program * 32 + stage

/-- The index of the tutti record of a level (R32). -/
def tuttiIndex (level : Nat) : Nat := 7808 + level

/-! ### Entries, codes and the check byte (R33, R34, R207) -/

/-- The stored code of stop `n`: entry byte n / 4, two bits, the lowest stop in the lowest bits (R31, R207). -/
def entryCode (bytes : EntryBytes) (n : StopNo) : BitVec 2 :=
  (bytes[n.val / 4]'(by omega)).extractLsb' (2 * (n.val % 4)) 2

/-- A code as a combination or tutti record reads it (R33). -/
def entryOfCode (c : BitVec 2) : Entry := if c = 1#2 then .draw else if c = 2#2 then .retire else .leave

/-- The code a capture writes for an entry (R33). -/
def codeOfEntry : Entry → BitVec 2
  | .leave => 0#2
  | .draw => 1#2
  | .retire => 2#2

/-- The entry bytes of 64 entries (R31, R207). -/
def packEntries (e : Stops Entry) : EntryBytes :=
  table fun k =>
    codeOfEntry (e[4 * k.val + 3]'(by omega)) ++ codeOfEntry (e[4 * k.val + 2]'(by omega)) ++
      codeOfEntry (e[4 * k.val + 1]'(by omega)) ++ codeOfEntry (e[4 * k.val]'(by omega))

/-- The sum of the entry bytes modulo 256 (R34). -/
def byteSum (bytes : EntryBytes) : Byte := bytes.toList.sum

/-- The check byte that balances the entry bytes (R34). -/
def balance (bytes : EntryBytes) : Byte := -byteSum bytes

/-- Whether entry bytes and check byte pass the check (R34). -/
def passesCheck (bytes : EntryBytes) (check : Byte) : Bool := byteSum bytes + check == 0#8

/-- The check byte of a forcing write: one more than the balancing value (R47). -/
def forcedCheck (bytes : EntryBytes) : Byte := balance bytes + 1#8

/-- The entry bytes of an all-LEAVE answer (R35, R38). -/
def allLeave : EntryBytes := Vector.replicate 16 0#8

/-- The entries of a combination or tutti record by the resolver's view: stops at or above S read LEAVE (R39). -/
def combinationView (stops : Nat) (bytes : EntryBytes) : Stops Entry :=
  table fun n => if n.val < stops then entryOfCode (entryCode bytes n) else .leave

/-- The stops below S that a stage record marks ADD; codes 2 and 3 read LEAVE (R33, R39). -/
def stageView (stops : Nat) (bytes : EntryBytes) : StopSet :=
  table fun n => decide (n.val < stops) && entryCode bytes n == 1#2

/-- The stops whose entry has a given value. -/
def stopsWith (e : Entry) (entries : Stops Entry) : StopSet := table fun n => entries[n] == e

/-! ### The parts of a record (R207) -/

/-- The data bytes of part 0, 1 or 2 of a record (R207). -/
def recordPart (bytes : EntryBytes) : Nat → List Byte
  | 0 => bytes.toList.take 6
  | 1 => (bytes.toList.drop 6).take 6
  | _ => bytes.toList.drop 12

/-- How many data bytes part 0, 1 or 2 has (R207, R208). -/
def partLength : Nat → Nat
  | 0 => 6
  | 1 => 6
  | _ => 4

/-- The 16 entry bytes of the data bytes received for a record (R208). -/
def bytesOfParts (data : List Byte) : EntryBytes := table fun k => data.getD k.val 0#8

/-! ### Ranges of frame fields (R179) -/

/-- Whether a RECALL's or CAPTURE's piston and level are in range for its scope (R179). -/
def pistonInRange (scope : Scope) (piston level : Byte) : Bool :=
  match scope with
  | .general => decide (1 ≤ piston.toNat) && decide (piston.toNat ≤ 48) && decide (level.toNat ≤ 127)
  | .divisional => decide (1 ≤ piston.toNat) && decide (piston.toNat ≤ 12) && decide (level.toNat ≤ 127)

/-- Whether the division of a divisional RECALL, CAPTURE or CANCEL is in range (R179). -/
def divisionInRange (division : Byte) : Bool := decide (division.toNat ≤ 15)

/-- A level clamped to 127 (R137, R179). -/
def clampLevel (level : Byte) : Nat := min level.toNat 127

/-- A record index clamped to 7935 (R179). -/
def clampIndex (high low : Byte) : Nat := min (twoBytes high low) lastIndex

/-- A STORE-READ count clamped to 1 to 16 (R179). -/
def clampCount (count : Byte) : Nat := max 1 (min count.toNat 16)

/-- The index after `i`, from 7935 to 0 (R210, R212). -/
def nextIndex (i : Nat) : Nat := if i < lastIndex then i + 1 else 0

/-! ### Binding (R97 to R100, R103) -/

/-- What step-next binds from a last general position, with sequence length `q` (R98). -/
def stepForward (q : Nat) (p : Nat × Nat) : Nat × Nat :=
  if p.2 < q then (p.1, p.2 + 1) else if p.1 < 127 then (p.1 + 1, 1) else (127, q)

/-- What step-prev binds from a last general position, with sequence length `q` (R99). -/
def stepBack (q : Nat) (p : Nat × Nat) : Nat × Nat :=
  if q < p.2 then (p.1, q) else if 2 ≤ p.2 then (p.1, p.2 - 1) else if 0 < p.1 then (p.1 - 1, q) else (0, 1)

/-- What a step RECALL binds: level and G number (R97 to R100). -/
def boundStep (forward : Bool) (q level : Nat) (last : Option (Nat × Nat)) : Nat × Nat :=
  match last with
  | none => (level, 1)
  | some p => if forward then stepForward q p else stepBack q p

/-- What a LEVEL frame binds from the current level (R103). -/
def boundLevel (up : Bool) (level : Nat) : Nat := if up then min (level + 1) 127 else level - 1

/-! ### Divisions and scopes in frames -/

/-- The scope byte (R169). -/
def scopeByte : Scope → Byte
  | .general => 0#8
  | .divisional => 1#8

/-- A division as a frame byte (R169). -/
def divisionByte (d : Division) : Byte := d.setWidth 8

/-- An address as a frame byte (R169). -/
def addressByte (a : Address) : Byte := a.setWidth 8

/-- A division byte, known to be in range, as a division. -/
def divisionOf (d : Byte) : Division := d.setWidth 4

end Sys2Proof.Machine
end

