-- ==== Sys2Proof/Machine/Ops.lean ====
section
/-! DEFINITION. Shared operations over the record array, the node state and the contacts. -/

namespace Sys2Proof.Machine

/-! ### The record array (R31, log 28) -/

/-- The record at an index: a listed one, or the factory record (R31). -/
def Memory.read (m : Memory) (i : Nat) : Record := ((m.find? fun c => c.1 == i).map (·.2)).getD Record.factory

/-- The array with `r` at index `i`, in canonical form. -/
def Memory.write : Memory → Nat → Record → Memory
  | [], i, r => if r = Record.factory then [] else [(i, r)]
  | (j, q) :: m, i, r =>
    if i < j then if r = Record.factory then (j, q) :: m else (i, r) :: (j, q) :: m
    else if i = j then if r = Record.factory then m else (i, r) :: m
    else (j, q) :: Memory.write m i r

/-- The array with its records changed by `f`, which must leave a factory record as it is. -/
def Memory.update (m : Memory) (f : Nat → Record → Record) : Memory :=
  m.filterMap fun c => if f c.1 c.2 = Record.factory then none else some (c.1, f c.1 c.2)

/-- The canonical form: indices strictly rising, no listed factory record (log 28). -/
def Memory.wf : Memory → Bool
  | [] => true
  | (i, r) :: m => r != Record.factory && m.all (fun c => decide (i < c.1)) && Memory.wf m

/-- Whether a read of the record from the array finds it DAMAGED (R34, R38). -/
def Record.damaged (r : Record) : Bool := r.written && !passesCheck r.bytes r.check

/-- What a read of the record from the array answers (R38). -/
def Record.answer (r : Record) : EntryBytes := if r.written && !r.damaged then r.bytes else allLeave

/-- The newest write-list entry for an index (R37). -/
def newestWrite (writes : List WriteEntry) (i : Nat) : Option WriteEntry :=
  (writes.filter fun e => e.index == i).getLast?

/-- What a read of a record index answers (R37, R38). -/
def Store.answer (st : Store) (i : Nat) : EntryBytes :=
  match newestWrite st.writes i with
  | some e => e.bytes
  | none => (st.array.read i).answer

/-- Whether a read of a record index finds the record DAMAGED (R37, R38). -/
def Store.readDamaged (st : Store) (i : Nat) : Bool :=
  match newestWrite st.writes i with
  | some _ => false
  | none => (st.array.read i).damaged

/-- A record's changed flag as the store answers it (R36). -/
def Store.changedFlag (st : Store) (i : Nat) : Bool :=
  match newestWrite st.writes i with
  | some e => e.source == .capture
  | none => (st.array.read i).changed

/-- The first of `count` indices from `start` on whose changed flag is set (R214). -/
def Store.firstChanged (st : Store) (start : Nat) : Nat → Option Nat
  | 0 => none
  | count + 1 => if st.changedFlag start then some start else st.firstChanged (start + 1) count

/-- The index of the record whose write of source CAPTURE is in progress at the head (R36). -/
def Store.captureInProgress (st : Store) : Option Nat :=
  match st.stage, st.writes with
  | some _, e :: _ => if e.source = .capture then some e.index else none
  | _, _ => none

/-- The store with the changed flags of the array cleared, but that of a CAPTURE write in progress (R36). -/
def Store.clearChanged (st : Store) : Store :=
  { st with array := st.array.update fun i r =>
      if st.captureInProgress = some i then r else { r with changed := false } }

/-- The lock flag of a level (R51). -/
def Store.locked (st : Store) (level : Nat) : Bool := if h : level < 128 then st.locks[level] else false

/-! ### The node -/

/-- Whether the node is in RUNNING or HAND_ONLY: its link, store and fault set work (R50, R170, R193). -/
def State.live (s : State) : Bool :=
  match s.node with
  | .running => true
  | .handOnly => true
  | _ => false

/-- Whether the node is in RUNNING. -/
def State.runs (s : State) : Bool := s.node == .running

/-- Whether the node has its supply: in any state but that between a supply loss and a power-on (R228). -/
def State.powered (s : State) : Bool := s.node != .unpowered

/-- Whether the node obeys the service frames that need service mode (R204). -/
def State.obeysService (s : State) : Bool := s.node == .handOnly || (s.runs && s.service.mode)

/-- The node's own address as a target byte names it (R180). -/
def State.isTarget (s : State) (target : Byte) : Bool := target == addressByte s.straps.address

/-- Whether a stop exists for the node (00_scope.md, Conventions; R226). -/
def State.serves (s : State) (n : StopNo) : Bool := decide (n.val < s.config.stops)

/-! ### Contacts (R147) -/

/-- The input of a contact. -/
def Scanner.input (sc : Scanner) : Contact → Debounce
  | .stop n => sc.stops[n]
  | .piston i => sc.pistons[i]
  | .aux j => sc.aux[j]

/-- The scanner with another value for the input of a contact. -/
def Scanner.withInput (sc : Scanner) (c : Contact) (d : Debounce) : Scanner :=
  match c with
  | .stop n => { sc with stops := put sc.stops n d }
  | .piston i => { sc with pistons := put sc.pistons i d }
  | .aux j => { sc with aux := put sc.aux j d }

/-- The debounce time of a contact (R147). -/
def Contact.debounceMs : Contact → Nat
  | .stop _ => 16
  | .piston _ => 8
  | .aux _ => 8

/-- An input after its raw contact takes a value (R147). -/
def Debounce.rawChange (d : Debounce) (ms : Nat) (closed : Bool) : Debounce :=
  if closed = d.raw then d
  else { d with raw := closed, timer := if closed = d.value then none else some ms }

/-- An input after its debounce timer has expired (R147). -/
def Debounce.expire (d : Debounce) : Debounce := { d with value := d.raw, timer := none }

/-- Whether the input's timer runs and would bring it to a value (R147). -/
def Debounce.comesTo (d : Debounce) (closed : Bool) : Bool := d.timer.isSome && d.raw == closed

/-- An input as the start reads it (R148). -/
def Debounce.started (d : Debounce) : Debounce := ⟨d.raw, d.raw, none⟩

/-- The scanner as the start reads its inputs (R148). -/
def Scanner.started (sc : Scanner) : Scanner :=
  ⟨sc.stops.map Debounce.started, sc.pistons.map Debounce.started, sc.aux.map Debounce.started⟩

/-- The debounced sense of every stop (R149). -/
def Scanner.senses (sc : Scanner) : StopSet := sc.stops.map Debounce.value

/-- The state with the debounce timer of a contact expired. -/
def State.debounced (s : State) (c : Contact) : State :=
  { s with scanner := s.scanner.withInput c (s.scanner.input c).expire }

/-- Whether an auxiliary input configured SET has its press latch set (R152). -/
def State.setHeld (s : State) : Bool :=
  (List.finRange 8).any fun j => s.config.aux[j] == .set && (s.scanner.aux[j]).value

/-- Whether the shoe host strap, as read at start, is set (R105). -/
def State.isHost (s : State) : Bool := s.straps.shoeHost

end Sys2Proof.Machine
end

