-- ==== Sys2Proof/Machine/Queue.lean ====
section
/-! DEFINITION. The transmit queue as a list: classes, order, coalescing matches, eviction, and the payload a frame
carries (R164, R168, R169, R181, R185). -/

namespace Sys2Proof.Machine

/-- The kind of a frame in the queue. -/
def Body.kind : Body → FrameKind
  | .cancel _ _ => .cancel
  | .recall _ _ _ _ _ => .recall
  | .step _ _ => .recall
  | .tutti => .tutti
  | .shoe _ _ _ => .shoe
  | .capture _ _ _ _ _ => .capture
  | .level _ => .level
  | .deviate _ _ => .deviate
  | .storeData _ _ => .storeData
  | .scanReply _ _ _ => .scanReply
  | .faultNote => .faultNote

/-- The class of a frame in the queue (R168). -/
def Body.cls (b : Body) : Nat := b.kind.cls.toNat

/-- Whether the frame is a SHOE. -/
def Body.isShoe : Body → Bool
  | .shoe _ _ _ => true
  | _ => false

/-- Whether the frame, where it is a SHOE, has this division in its division field (R123). -/
def Body.shoeDivisionIs (own : Division) : Body → Bool
  | .shoe division _ _ => division == own
  | _ => true

/-- Whether the frame is a FAULT-NOTE. -/
def Body.isNote : Body → Bool
  | .faultNote => true
  | _ => false

/-- Whether the frame is a CANCEL. -/
def Body.isCancel : Body → Bool
  | .cancel _ _ => true
  | _ => false

/-- Whether one entry goes before another: by class, then by age (R181). -/
def QueueEntry.before (a b : QueueEntry) : Bool :=
  decide (a.body.cls < b.body.cls) || (a.body.cls == b.body.cls && decide (a.age < b.age))

/-- The queue with an entry in its order; a frame under way keeps its place (R181). -/
def insertEntry (e : QueueEntry) : List QueueEntry → List QueueEntry
  | [] => [e]
  | f :: q => if f.underWay then f :: insertEntry e q else if e.before f then e :: f :: q else f :: insertEntry e q

/-- The most frames the queue holds (R181). -/
def queueLimit : Nat := 8

/-- Whether the queue has a free place (R182). -/
def hasPlace (q : List QueueEntry) : Bool := decide (q.length < queueLimit)

/-- The entry that goes last: of the numerically highest class the youngest, among those not under way (R185). -/
def evictionVictim : List QueueEntry → Option QueueEntry
  | [] => none
  | e :: q =>
    if e.underWay then evictionVictim q
    else match evictionVictim q with
      | none => some e
      | some v => if e.before v then some v else some e

/-- A SHOE takes the offered program and stage; every other frame stays as it is (R123, R183). -/
def Body.updated (program stage : Byte) : Body → Body
  | .shoe division _ _ => .shoe division program stage
  | b => b

/-- The queue with the SHOE it holds updated in place: it keeps its place and age (R183). -/
def updateShoe (program stage : Byte) (q : List QueueEntry) : List QueueEntry :=
  q.map fun e => { e with body := e.body.updated program stage }

/-- The queue with a FAULT-NOTE merged into the one it holds: an entry under way is marked (R184). -/
def mergeNote (q : List QueueEntry) : List QueueEntry :=
  q.map fun e => if e.body.isNote && e.underWay then { e with merged := true } else e

/-- Whether the queue holds a SHOE (R183). -/
def holdsShoe (q : List QueueEntry) : Bool := q.any fun e => e.body.isShoe

/-- Whether the queue holds a FAULT-NOTE (R184). -/
def holdsNote (q : List QueueEntry) : Bool := q.any fun e => e.body.isNote

/-- The head put back in its order after an attempt that leaves it in the queue (R171, R181, R184). -/
def releaseHead : List QueueEntry → List QueueEntry
  | [] => []
  | e :: q => insertEntry { e with underWay := false, merged := false } q

/-- Whether an entry is a press RECALL of a scope and, for DIVISIONAL, of a division (R154). -/
def QueueEntry.matchesPress (e : QueueEntry) (scope : Scope) (division : Byte) : Bool :=
  match e.body with
  | .recall sc d _ _ _ => sc == scope && (scope == .general || d == division)
  | _ => false

/-- Rewrites the oldest waiting press RECALL that matches; `none` where none waits (R154). -/
def rewritePress (scope : Scope) (division piston level serial : Byte) : List QueueEntry → Option (List QueueEntry)
  | [] => none
  | e :: q =>
    if e.matchesPress scope division && !e.underWay then
      some ({ e with body := .recall scope division piston level serial } :: q)
    else (rewritePress scope division piston level serial q).map (e :: ·)

/-! ### Payloads (R169) -/

/-- The two bits of the start cause in a FAULT-NOTE (R169). -/
def StartCause.code : StartCause → BitVec 2
  | .none => 0#2
  | .power => 1#2
  | .line => 2#2
  | .link => 3#2

/-- The high byte of a FAULT-NOTE: start cause, CONFIG, UNKNOWN_KIND (R169, R200). -/
def noteHigh (f : Faults) : Byte := 0#4 ++ f.cause.code ++ f.flags.extractLsb' 8 2

/-- The low byte of a FAULT-NOTE (R169, R200). -/
def noteLow (f : Faults) : Byte := f.flags.extractLsb' 0 8

/-- The payload a frame goes out with when its attempt starts now: late-bound frames are bound here (R170). A TUTTI
bound on carries the state byte 1, one of the values R169 allows (DESIGN CHOICE, log 44); a SHOE goes out
with the two bytes of R168 and R169, and its division field stays in its entry (R123; DESIGN CHOICE, log 43). -/
def Body.payload (s : State) : Body → List Byte
  | .cancel sc d => [scopeByte sc, d]
  | .recall sc d p l n => [scopeByte sc, d, p, l, n, 0#8]
  | .step forward n =>
    let bound := boundStep forward s.config.sequence s.resolver.level s.resolver.lastGeneral
    [0#8, divisionByte s.straps.division, lowByte bound.2, lowByte bound.1, n, if forward then 1#8 else 2#8]
  | .tutti => [if s.resolver.tutti then 0#8 else 1#8, lowByte s.resolver.level]
  | .shoe _ p st => [p, st]
  | .capture sc d p l n => [scopeByte sc, d, p, l, n]
  | .level up => [lowByte (boundLevel up s.resolver.level)]
  | .deviate sc t => [scopeByte sc, divisionByte s.straps.division, addressByte t.address, t.serial]
  | .storeData part data => part :: data
  | .scanReply found hi lo => [found, hi, lo]
  | .faultNote => [noteHigh s.faults, noteLow s.faults, lowByte s.faults.stuckCount]

/-- The frame an entry goes out as when its attempt starts now (R164, R168, R170). -/
def Body.frame (s : State) (b : Body) : RawFrame := b.kind.frame s.straps.address (b.payload s)

end Sys2Proof.Machine
end

