-- ==== Sys2Proof/Machine/Flags.lean ====
section
/-! DEFINITION. The fault set and the offers to the transmit queue: flags, FAULT-NOTE calls, the fault line, attempts,
admission, refusal and eviction (R170, R182 to R186, R193 to R201). -/

namespace Sys2Proof.Machine

/-- The ten fault flags (R194). -/
inductive Flag where
  | stuck | damaged | storeFull | linkCrc | txOverflow | readback | shoeSilent | secondShoe | unknownKind | config
deriving DecidableEq, Repr

/-- The flag's bit in the flag bytes of a FAULT-NOTE, the low byte first (R169). -/
def Flag.bit : Flag → Fin 10
  | .stuck => 0
  | .damaged => 1
  | .storeFull => 2
  | .linkCrc => 3
  | .txOverflow => 4
  | .readback => 5
  | .shoeSilent => 6
  | .secondShoe => 7
  | .unknownKind => 8
  | .config => 9

/-- The word with one flag's bit set. -/
def Flag.mask (f : Flag) : BitVec 10 := 1#10 <<< f.bit.val

/-- Whether a flag is set. -/
def Faults.has (fs : Faults) (f : Flag) : Bool := fs.flags.getLsbD f.bit.val

/-- The flags with one set. -/
def Faults.withFlag (fs : Faults) (f : Flag) : Faults := { fs with flags := fs.flags ||| f.mask }

/-- The flags with one cleared. -/
def Faults.withoutFlag (fs : Faults) (f : Flag) : Faults := { fs with flags := fs.flags &&& ~~~f.mask }

/-- Whether the fault line works in PULSE mode; HAND_ONLY uses LEVEL (R193). -/
def State.pulseMode (s : State) : Bool := s.runs && s.config.pulseLine

/-- The fault line: active or not (R193, R197, R198). -/
def State.faultLine (s : State) : Bool :=
  if s.live then if s.pulseMode then s.faults.pulse.isSome else s.faults.flags != 0#10 else false

/-- A flag that goes from clear to set: in PULSE mode it loads the pulse timer with 50 ms (R194, R198). -/
def raiseFlag (f : Flag) (s : State) : State :=
  { s with faults :=
      { s.faults.withFlag f with pulse := if s.pulseMode then some 50 else s.faults.pulse } }

/-! ### Attempts and admission -/

/-- Starts a contention attempt if the link is idle, the queue is not empty and the node is in RUNNING or
HAND_ONLY: the head is marked under way and its payload is bound (R170). -/
def startAttempt (s : State) : State :=
  match s.link.queue with
  | [] => s
  | e :: q =>
    if s.link.line = .idle ∧ s.live then
      { s with link :=
          { s.link with
            line := .frame
            sending := some (e.body.frame s)
            queue := { e with underWay := true } :: q } }
    else s

/-- A frame joins the queue in its order, and starts an attempt at once on an idle link (R170, R181). -/
def joinQueue (b : Body) (s : State) : State :=
  startAttempt
    { s with link :=
        { s.link with
          queue := insertEntry ⟨b, s.link.admitted, false, false⟩ s.link.queue
          admitted := s.link.admitted + 1 } }

/-- Marks whether a FAULT-NOTE is owed; a note no longer owed is not due for another offer (R199, R201). -/
def setNotePending (p : Bool) (s : State) : State :=
  { s with faults := { s.faults with notePending := p, retryDue := p && s.faults.retryDue } }

/-- The fault set offers a FAULT-NOTE: merged, admitted, or refused with TX_OVERFLOW, whose own call finds the
mark set and offers nothing more (R182, R184, R199, R201). -/
def offerNote (s : State) : State :=
  if holdsNote s.link.queue then
    setNotePending false { s with link := { s.link with queue := mergeNote s.link.queue } }
  else if hasPlace s.link.queue then joinQueue .faultNote (setNotePending false s)
  else if s.faults.has .txOverflow then setNotePending true s
  else raiseFlag .txOverflow (setNotePending true s)

/-- A FAULT-NOTE call: while the mark is set it does not offer again (R199). -/
def noteCall (s : State) : State := if s.faults.notePending then s else offerNote (setNotePending true s)

/-- A report of a cause: a flag already set changes nothing; a new flag pulses the line and makes a FAULT-NOTE
call. In STARTING the fault set takes no report (R193, R194). -/
def setFlag (f : Flag) (s : State) : State :=
  if s.live && !s.faults.has f then noteCall (raiseFlag f s) else s

/-- A following flag whose cause ended, cleared without a call (R194). -/
def clearFlag (f : Flag) (s : State) : State := { s with faults := s.faults.withoutFlag f }

/-- The new stuck count, as the sequencer reports it (R195). -/
def reportStuckCount (count : Nat) (s : State) : State :=
  let t := { s with faults := { s.faults with stuckCount := count } }
  if s.faults.stuckCount < count then
    if s.faults.has .stuck then noteCall t else setFlag .stuck t
  else if count = 0 then clearFlag .stuck t
  else t

/-- Whether a following flag's cause lasts (R196; log 25 for CONFIG). -/
def State.causeLasts (s : State) : Flag → Bool
  | .stuck => decide (0 < s.faults.stuckCount)
  | .shoeSilent => s.resolver.silence == .silent
  | .config => s.node == .handOnly || s.shoe.unit == .off
  | _ => false

/-- The flags whose causes last (R196). -/
def State.lastingFlags (s : State) : BitVec 10 :=
  (if s.causeLasts .stuck then Flag.mask .stuck else 0#10) |||
    (if s.causeLasts .shoeSilent then Flag.mask .shoeSilent else 0#10) |||
      (if s.causeLasts .config then Flag.mask .config else 0#10)

/-- A clear request: clears the flags the mask names, sets again each following flag whose cause lasts, and makes
one FAULT-NOTE call (R196). -/
def clearRequest (mask : BitVec 10) (s : State) : State :=
  noteCall { s with faults := { s.faults with flags := (s.faults.flags &&& ~~~mask) ||| s.lastingFlags } }

/-! ### Offers of the other blocks -/

/-- A CANCEL offered to a full queue: the victim leaves, the CANCEL joins, TX_OVERFLOW is set, and the fault set
owes a FAULT-NOTE if the victim was one (R185, R201). -/
def evictFor (b : Body) (s : State) : State :=
  match evictionVictim s.link.queue with
  | none => setFlag .txOverflow s
  | some v =>
    let t := joinQueue b { s with link := { s.link with queue := s.link.queue.erase v } }
    setFlag .txOverflow (if v.body.isNote then setNotePending true t else t)

/-- A block offers a frame to the queue; the answer is admitted (`true`) or refused (R182). -/
def offer (b : Body) (s : State) : State × Bool :=
  match b with
  | .shoe _ p st =>
    if holdsShoe s.link.queue then ({ s with link := { s.link with queue := updateShoe p st s.link.queue } }, true)
    else if hasPlace s.link.queue then (joinQueue b s, true)
    else (setFlag .txOverflow s, false)
  | _ =>
    if hasPlace s.link.queue then (joinQueue b s, true)
    else if b.isCancel then (evictFor b s, true)
    else (setFlag .txOverflow s, false)

/-- The serial counter advances by one, from 255 to 0 (R3). -/
def advanceSerial (s : State) : State := { s with resolver := { s.resolver with serial := s.resolver.serial + 1 } }

/-- A RECALL or CAPTURE offered with the counter's present value: the counter advances when the frame is
admitted (R3). -/
def offerWithSerial (b : Byte → Body) (s : State) : State × Bool :=
  match offer (b s.resolver.serial) s with
  | (t, true) => (advanceSerial t, true)
  | (t, false) => (t, false)

/-- The head leaves the queue, sent or dropped: the readback state is cleared, a pending FAULT-NOTE is due to be
offered again, and a marked FAULT-NOTE is followed by a new one at once (R174, R172, R184, R201). -/
def headLeaves (s : State) : State :=
  match s.link.queue with
  | [] => { s with link := { s.link with sending := none } }
  | e :: q =>
    let t :=
      { s with
        link := { s.link with sending := none, queue := q }
        faults := { s.faults with retryDue := s.faults.notePending } }
    if e.body.isNote && e.merged then offerNote t else t

/-- The node takes a frame (R167, R174 to R178): its own, when its readback stayed clean and the frame is the one
it sends; another station's, when the line is not SEEKING. `act` is what the node does with it, told whether it
is its own. In STARTING no frame is taken (R187). -/
def takeFrame (c : Instr) (act : Bool → State → State) (s : State) : State :=
  if s.live && c.wellFormed then
    match s.link.sending with
    | some g =>
      if frameOf c = some g then
        act true (headLeaves { s with link := { s.link with line := .gap }, blockWrite := none })
      else s
    | none =>
      if s.link.line = .seeking then s
      else act false { s with link := { s.link with line := .gap }, blockWrite := none }
  else s

end Sys2Proof.Machine
end

