-- ==== Sys2Proof/Machine/Sequencer.lean ====
section
/-! DEFINITION. The coil sequencer: coils, move list, new targets, the start rule, settle checks, withdrawals and
the coil cut (R55 to R81). -/

namespace Sys2Proof.Machine

/-- Whether a stop is in PULSING (R56). -/
def Motion.pulses : Motion → Bool
  | .pulsing _ _ _ => true
  | _ => false

/-- Whether a stop is AT_REST (R56). -/
def Motion.rests : Motion → Bool
  | .atRest => true
  | _ => false

/-- The direction of a stop's move; for a RESTING stop its present target (R56). -/
def Motion.direction : Motion → Option Bool
  | .atRest => none
  | .queued d _ => some d
  | .pulsing d _ _ => some d
  | .settling d _ _ => some d
  | .resting _ d _ _ => some d

/-- The energized count (R60). -/
def Sequencer.energized (sq : Sequencer) : Nat := sq.motions.toList.countP fun r => r.motion.pulses

/-- The coil output of a stop and a direction: energized while the stop's move in that direction pulses
(R55, R61, R63). -/
def Sequencer.coil (sq : Sequencer) (n : StopNo) (direction : Bool) : Bool :=
  match (sq.motions[n]).motion with
  | .pulsing d _ _ => d == direction
  | _ => false

/-- The stuck count (R78). -/
def Sequencer.stuckCount (sq : Sequencer) : Nat := sq.motions.toList.countP fun r => r.stuck

/-- The sequencer with one stop in another motion state, its marker as it was. -/
def Sequencer.withMotion (sq : Sequencer) (n : StopNo) (m : Motion) : Sequencer :=
  { sq with motions := put sq.motions n { sq.motions[n] with motion := m } }

/-- The sequencer with one stop AT_REST and its marker set or clear. -/
def Sequencer.atRest (sq : Sequencer) (n : StopNo) (stuck : Bool) : Sequencer :=
  { sq with motions := put sq.motions n ⟨.atRest, stuck⟩ }

/-- The sequencer with a stop's entry taken out of the move list (R58). -/
def Sequencer.leaveList (sq : Sequencer) (n : StopNo) : Sequencer := { sq with moves := sq.moves.filter (· != n) }

/-- The sequencer with a stop's entry at the tail of the move list (R58, R59, R65, R68). -/
def Sequencer.atTail (sq : Sequencer) (n : StopNo) : Sequencer :=
  { sq with moves := sq.moves.filter (· != n) ++ [n] }

/-- A move is done: the entry leaves, the stop is AT_REST and its marker is cleared (R64, R68). -/
def Sequencer.moveDone (sq : Sequencer) (n : StopNo) : Sequencer := (sq.leaveList n).atRest n false

/-- A move is queued at the tail (R59, R65, R68). -/
def Sequencer.queueMove (sq : Sequencer) (n : StopNo) (d : Bool) (attempt : Attempt) : Sequencer :=
  (sq.atTail n).withMotion n (.queued d attempt)

/-- A stop whose motion state is already read gets the new target `d`; `sense` is its debounced sense
(R59, R69 to R73). -/
def Sequencer.newTarget (sq : Sequencer) (n : StopNo) (sense d : Bool) : Sequencer :=
  match (sq.motions[n]).motion with
  | .atRest => if d = sense then sq.atRest n false else sq.queueMove n d .first
  | .queued e _ => if d = e then sq else sq.withMotion n (.queued d .first)
  | .pulsing e _ _ => if d = e then sq else sq.withMotion n (.resting e d (some d) 20)
  | .settling e _ _ => if d = e then sq else sq.withMotion n (.resting e d (some d) 20)
  | .resting cut e _ left =>
    if d = e then sq else sq.withMotion n (.resting cut d (if d = cut then none else some d) left)

/-- The pulse timer of a stop expires: the coil is released and the stop settles (R63). -/
def Sequencer.pulseEnd (sq : Sequencer) (n : StopNo) (d : Bool) (attempt : Attempt) (settleMs : Nat) : Sequencer :=
  sq.withMotion n (.settling d attempt settleMs)

/-- The settle check of a move (R64 to R66). -/
def Sequencer.settleCheck (sq : Sequencer) (n : StopNo) (sense d : Bool) (attempt : Attempt) : Sequencer :=
  if sense = d then sq.moveDone n
  else match attempt with
    | .first => sq.queueMove n d .second
    | .second => (sq.leaveList n).atRest n true

/-- The end of a stop's rest (R68). -/
def Sequencer.restEnd (sq : Sequencer) (n : StopNo) (sense d : Bool) (awaiting : Option Bool) : Sequencer :=
  match awaiting with
  | some e => sq.queueMove n e .first
  | none => if sense = d then sq.moveDone n else sq.queueMove n d .first

/-- Every motion of a coil cut: a stop whose move is removed is AT_REST with its marker clear, a stop at rest
keeps its marker (R79). -/
def MotionRecord.cut (r : MotionRecord) : MotionRecord := if r.motion.rests then r else ⟨.atRest, false⟩

/-- The coil cut (R79). -/
def Sequencer.cut (sq : Sequencer) : Sequencer :=
  { sq with motions := sq.motions.map MotionRecord.cut, moves := [] }

/-- The stops whose move a coil cut would remove (R79). -/
def Sequencer.moving (sq : Sequencer) : StopSet := sq.motions.map fun r => !r.motion.rests

/-- The start rule over the move list: each QUEUED entry in its turn, while the count is below the budget (R61). -/
def startMoves (budget pulseMs : Nat) : List StopNo → Sequencer → Sequencer
  | [], sq => sq
  | n :: ns, sq =>
    match (sq.motions[n]).motion with
    | .queued d attempt =>
      if sq.energized < budget then startMoves budget pulseMs ns (sq.withMotion n (.pulsing d attempt pulseMs)) else sq
    | _ => startMoves budget pulseMs ns sq

/-- Whether the start rule may start a move (R62). -/
def State.mayStartMoves (s : State) : Bool :=
  s.runs && s.pins.supplyGood && s.sequencer.cutHold.isNone && s.sequencer.startWait.isNone

/-- The start rule at the end of an event (R61, R62). -/
def startRule (s : State) : State :=
  if s.mayStartMoves then
    { s with sequencer := startMoves s.config.budget s.config.pulseMs s.sequencer.moves s.sequencer }
  else s

/-- The sequencer reports the stuck count if it changed (R78). -/
def reportStuck (s : State) : State :=
  if s.sequencer.stuckCount = s.faults.stuckCount then s else reportStuckCount s.sequencer.stuckCount s

/-- A change of the sequencer, reported to the fault set. -/
def withSequencer (sq : Sequencer) (s : State) : State := reportStuck { s with sequencer := sq }

/-- The new targets of one pass, in stop order: every stop below S whose target differs from its drawn image
(R10, R59). -/
def passTargets (s : State) (target : StopSet) (sq : Sequencer) : Sequencer :=
  (List.finRange 64).foldl
    (fun sq n =>
      if s.serves n && target[n] != s.resolver.drawn[n] then sq.newTarget n (s.scanner.senses[n]) target[n] else sq)
    sq

end Sys2Proof.Machine
end

