-- ==== Sys2Proof/Machine/Resolver.lean ====
section
/-! DEFINITION. The registration resolver and the outputs it feeds: the speaking set and its shifts, the pass that
applies targets, the departure check, references and lamps (R1 to R30, R83 to R96, R188 to R192). -/

namespace Sys2Proof.Machine

/-! ### The speaking set and the output chain -/

/-- The speaking set (R6): no stop at or above S speaks. -/
def Resolver.speaks (r : Resolver) (stops : Nat) : StopSet :=
  table fun n =>
    decide (n.val < stops) &&
      (if r.tutti then !r.tuttiSilence[n] && (r.drawn[n] || r.addition[n] || r.tuttiAdd[n])
       else r.drawn[n] || r.addition[n])

/-- A shift begins when the dirty mark is set, the shift is idle and the node is in RUNNING or HAND_ONLY: the
speaking set is copied and the mark cleared (R189). -/
def startShift (s : State) : State :=
  if s.outputs.dirty && s.outputs.shift.isNone && s.live then
    { s with outputs := { s.outputs with dirty := false, shift := some s.resolver.speaking } }
  else s

/-- The speaking set recomputed at the end of an event; one that differs is handed to the output drivers
(R6, R189). -/
def refreshSpeaking (s : State) : State :=
  let speaking := s.resolver.speaks s.config.stops
  if speaking = s.resolver.speaking then s
  else startShift { s with
    resolver := { s.resolver with speaking := speaking }
    outputs := { s.outputs with dirty := true } }

/-! ### Targets and departures -/

/-- The targets of a record's entries (R10). -/
def entryTargets (entries : Stops Entry) (drawn : StopSet) : StopSet :=
  table fun n => match entries[n] with
    | .leave => drawn[n]
    | .draw => true
    | .retire => false

/-- A pass of the resolver: the sequencer takes each stop whose target differs, then the drawn image of every stop
below S takes its target, and the sequencer's stuck count is reported (R10, R78). The speaking set and the start
rule follow at the end of the event. -/
def applyTargets (target : StopSet) (s : State) : State :=
  withSequencer (passTargets s target s.sequencer)
    { s with resolver := { s.resolver with
        drawn := table fun n => if s.serves n then target[n] else s.resolver.drawn[n] } }

/-- Whether a counted stop disagrees with the reference, `counted` saying which stops may count (R28). -/
def Reference.disagrees (r : Reference) (counted drawn : StopSet) : Bool :=
  (List.finRange 64).any fun n =>
    counted[n] && match r.entries[n] with
      | .leave => false
      | .draw => !drawn[n]
      | .retire => drawn[n]

/-- The stops that may count against the general reference (R28). -/
def State.generalCounted (s : State) : StopSet := table fun n => s.serves n && !s.config.excluded[n]

/-- The stops that may count against the divisional reference (R28). -/
def State.divisionalCounted (s : State) : StopSet := table fun n => s.serves n

/-- The departure check against the general reference: a departed reference offers a DEVIATE, and is marked when
the queue admits it (R27 to R29). -/
def checkGeneral (s : State) : State :=
  match s.resolver.general with
  | none => s
  | some r =>
    if !r.departed && r.disagrees s.generalCounted s.resolver.drawn then
      match offer (.deviate .general r.tag) s with
      | (t, true) => { t with resolver := { t.resolver with general := some { r with departed := true } } }
      | (t, false) => t
    else s

/-- The departure check against the divisional reference (R27 to R29). -/
def checkDivisional (s : State) : State :=
  match s.resolver.divisional with
  | none => s
  | some r =>
    if !r.departed && r.disagrees s.divisionalCounted s.resolver.drawn then
      match offer (.deviate .divisional r.tag) s with
      | (t, true) => { t with resolver := { t.resolver with divisional := some { r with departed := true } } }
      | (t, false) => t
    else s

/-! ### Records -/

/-- A read of a record by the resolver or by service access: what it answers is `Store.answer`; a DAMAGED record
sets the flag (R37, R38). -/
def readRecord (i : Nat) (s : State) : State := if s.store.readDamaged i then setFlag .damaged s else s

/-- The entries of a combination or tutti record as the resolver reads them (R9, R33, R39). -/
def State.combination (s : State) (i : Nat) : Stops Entry := combinationView s.config.stops (s.store.answer i)

/-! ### References and lamps -/

/-- A division as a place among the lamp references. -/
def Division.place (d : Division) : Fin 16 := ⟨d.toNat, d.isLt⟩

/-- Whether a piston map entry names a divisional piston of division `d`. -/
def namesDivision (d : Division) : Option Piston → Bool
  | some (.divisional e _) => e == d
  | _ => false

/-- Whether the node keeps a lamp reference for division `d` (R86). -/
def State.keepsLampReference (s : State) (d : Division) : Bool :=
  d != s.straps.division && s.config.pistons.toList.any (namesDivision d)

/-- The record that serves a piston is present, names it and is not dark (R85). -/
def State.steadyValue (s : State) : Option Piston → Bool
  | none => false
  | some (.general g) =>
    match s.resolver.general with
    | some r => r.piston == g && !r.dark
    | none => false
  | some (.divisional d k) =>
    if d = s.straps.division then
      match s.resolver.divisional with
      | some r => r.piston == k && !r.dark
      | none => false
    else match s.resolver.lampRefs[Division.place d] with
      | some r => r.piston == k && !r.dark
      | none => false

/-- The steady values recomputed and reported to the output drivers; a running blink goes on (R84, R85). -/
def refreshLamps (s : State) : State :=
  { s with outputs := { s.outputs with
      lamps := s.outputs.lamps.mapFinIdx fun i l h => { l with steady := s.steadyValue s.config.pistons[i] } } }

/-- How a blink begins: the lit phase of the first cycle (R93, R192). -/
def BlinkKind.start : BlinkKind → Blink
  | .slow => ⟨.slow, 6, 500⟩
  | .fast => ⟨.fast, 8, 125⟩

/-- The length of a phase of a blink (R192). -/
def BlinkKind.phaseMs : BlinkKind → Nat
  | .slow => 500
  | .fast => 125

/-- Every input that names the piston starts the blink afresh (R93 to R95). -/
def blinkPiston (kind : BlinkKind) (p : Piston) (s : State) : State :=
  { s with outputs := { s.outputs with
      lamps := s.outputs.lamps.mapFinIdx fun i l h =>
        if s.config.pistons[i] = some p then { l with blink := some kind.start } else l } }

/-- Whether a lamp is lit: the steady value, or the present phase of its blink (R84, R93). -/
def Lamp.lit (l : Lamp) : Bool :=
  match l.blink with
  | none => l.steady
  | some b => b.phases % 2 == 0

/-- The fault lamp (R191). -/
def State.faultLamp (s : State) : Bool := s.live && s.faults.flags != 0#10

/-- The service lamp: the service mode in RUNNING, the slow blink in HAND_ONLY (R191, R192). -/
def State.serviceLamp (s : State) : Bool :=
  match s.node with
  | .running => s.service.mode
  | .handOnly => match s.outputs.serviceBlink with
    | some (lit, _) => lit
    | none => false
  | _ => false

/-- A fresh reference (R2, R12, R13, R18, R19). -/
def Reference.fresh (tag : Tag) (piston : Byte) (entries : Stops Entry) : Reference :=
  ⟨tag, piston.toNat, entries, false, false⟩

/-- The general reference replaced, with the last general position set, and the divisional reference and every
lamp reference cleared (R12, R18, R87). -/
def setGeneral (r : Reference) (level : Byte) (s : State) : State :=
  { s with resolver := { s.resolver with
      general := some r
      lastGeneral := some (level.toNat, r.piston)
      divisional := none
      lampRefs := Vector.replicate 16 none } }

/-- The divisional reference replaced (R13, R19). -/
def setDivisional (r : Reference) (s : State) : State := { s with resolver := { s.resolver with divisional := some r } }

/-- The lamp reference of another division, where the node keeps one, takes a value (R86, R87). -/
def setLampReference (d : Division) (r : Option LampReference) (s : State) : State :=
  if s.keepsLampReference d then
    { s with resolver := { s.resolver with lampRefs := put s.resolver.lampRefs (Division.place d) r } }
  else s

/-- The entries a general CAPTURE forms (R17). -/
def State.generalCaptureEntries (s : State) : Stops Entry :=
  table fun n => if s.serves n && !s.config.excluded[n] then (if s.resolver.drawn[n] then .draw else .retire) else .leave

/-- The entries a divisional CAPTURE forms (R19). -/
def State.divisionalCaptureEntries (s : State) : Stops Entry :=
  table fun n => if s.serves n then (if s.resolver.drawn[n] then .draw else .retire) else .leave

end Sys2Proof.Machine
end

