-- ==== Sys2Proof/Machine/ConfigBlock.lean ====
section
/-! DEFINITION. The configuration block as read at start: its fields, its clamps and its checks, and the shoe
calibration (R107, R108, R113, R114, R219 to R222). -/

namespace Sys2Proof.Machine

/-- The bytes of the configuration block (R220). -/
abbrev ConfigBlock := Vector Byte 128

/-- A one-byte field of the block. -/
def blockByte (b : ConfigBlock) (k : Fin 128) : Nat := (b[k]).toNat

/-- A value clamped to a range (R222). -/
def clampTo (low high n : Nat) : Nat := max low (min n high)

/-- Whether the 128 bytes sum to 0 modulo 256 (R221). -/
def blockBalances (b : ConfigBlock) : Bool := b.toList.sum == 0#8

/-- The scope code of a piston map entry, bits 7 and 6 of its scope byte (R220). -/
def pistonScope (b : ConfigBlock) (i : Fin 16) : BitVec 2 := (b[16 + 2 * i.val]'(by omega)).extractLsb' 6 2

/-- The number of a piston map entry (R220). -/
def pistonNumber (b : ConfigBlock) (i : Fin 16) : Nat := (b[17 + 2 * i.val]'(by omega)).toNat

/-- The division of a divisional piston map entry, bits 3 to 0 of its scope byte (R220). -/
def pistonDivision (b : ConfigBlock) (i : Fin 16) : Division := (b[16 + 2 * i.val]'(by omega)).extractLsb' 0 4

/-- A piston map entry (R83, R220). -/
def readPiston (b : ConfigBlock) (i : Fin 16) : Option Piston :=
  if pistonScope b i = 1#2 then some (.general (pistonNumber b i))
  else if pistonScope b i = 2#2 then some (.divisional (pistonDivision b i) (pistonNumber b i))
  else none

/-- Whether a piston map entry is a configuration fault (R221). -/
def pistonFault (b : ConfigBlock) (i : Fin 16) : Bool :=
  if pistonScope b i = 0#2 then false
  else if pistonScope b i = 1#2 then pistonNumber b i == 0 || decide (48 < pistonNumber b i)
  else if pistonScope b i = 2#2 then pistonNumber b i == 0 || decide (12 < pistonNumber b i)
  else true

/-- The function of an auxiliary input; a code of 13 and above is unused, a division above 15 is 15
(R151, R220, R222). -/
def readAux (b : ConfigBlock) (j : Fin 8) : AuxFunction :=
  let division : Division := BitVec.ofNat 4 (min (b[49 + 2 * j.val]'(by omega)).toNat 15)
  match (b[48 + 2 * j.val]'(by omega)).toNat with
  | 1 => .set
  | 2 => .generalCancel
  | 3 => .divisionalCancel division
  | 4 => .stepNext
  | 5 => .stepPrev
  | 6 => .levelUp
  | 7 => .levelDown
  | 8 => .tutti
  | 9 => .program 0
  | 10 => .program 1
  | 11 => .program 2
  | 12 => .program 3
  | _ => .unused

/-- The general capture exclusion of a stop: bit 2 of its four-bit field (R220). -/
def readExcluded (b : ConfigBlock) (n : StopNo) : Bool :=
  (b[64 + n.val / 2]'(by omega)).getLsbD (4 * (n.val % 2) + 2)

/-- A two-byte shoe reading, clamped (R220, R222). -/
def readReading (b : ConfigBlock) (high low : Fin 128) : Nat := min (twoBytes b[high] b[low]) 1023

/-- The shoe items, clamped; the hysteresis is clamped once more from the stage count (R107, R222). -/
def readShoe (b : ConfigBlock) : ShoeConfig :=
  let n := clampTo 1 31 (blockByte b 13)
  { heel := readReading b 6 7
    toe := readReading b 8 9
    heelBand := min (blockByte b 10) 63
    toeBand := min (blockByte b 11) 63
    filter := min (blockByte b 12) 4
    stages := n
    hysteresis := min (min (blockByte b 14) 63) (1024 / (n + 1) - 1)
    follower := min (blockByte b 15) 15 }

/-- The block read and clamped, by a node with these straps (R220, R222). -/
def readConfig (straps : Straps) (b : ConfigBlock) : NodeConfig where
  stops := blockByte b 0
  pulseMs := clampTo 20 250 (blockByte b 1)
  settleMs := clampTo 10 100 (blockByte b 2)
  budget := clampTo 1 16 (blockByte b 3)
  sequence := clampTo 1 48 (blockByte b 4)
  coalesceLast := (b[5]).getLsbD 0
  pulseLine := (b[5]).getLsbD 1
  excluded := table (readExcluded b)
  pistons := table (readPiston b)
  aux := table (readAux b)
  shoe := if straps.shoeHost then some (readShoe b) else none

/-- Whether the start finds a configuration fault (R221). -/
def configFault (straps : Straps) (b : ConfigBlock) : Bool :=
  !blockBalances b || blockByte b 0 == 0 || decide (64 < blockByte b 0) ||
    (List.finRange 16).any (pistonFault b) || straps.address == 0#6

/-- The configuration a HAND_ONLY node uses: stop count 64, LEVEL mode, no piston, no function, no shoe
(R148, R193, R226; log 24). -/
def handOnlyConfig : NodeConfig := { NodeConfig.factory with stops := 64, pulseLine := false }

/-- The configuration a start leaves in use (R221, R222, R226). -/
def configAtStart (straps : Straps) (b : ConfigBlock) : NodeConfig :=
  if configFault straps b then handOnlyConfig else readConfig straps b

/-- The span of the shoe's travel, by the wiring that H and T show (R113, R114). -/
def ShoeConfig.span (c : ShoeConfig) : Int :=
  if c.heel < c.toe then (c.toe : Int) - c.heel - c.heelBand - c.toeBand
  else (c.heel : Int) - c.toe - c.heelBand - c.toeBand

/-- Whether the calibration passes (R108). -/
def ShoeConfig.calibrated (c : ShoeConfig) : Bool :=
  decide (64 ≤ ((c.toe : Int) - c.heel).natAbs) && decide (32 ≤ c.span)

end Sys2Proof.Machine
end

