-- ==== Sys2Proof/Machine/ShoeOps.lean ====
section
/-! DEFINITION. The arithmetic of the shoe unit: filter, position, stages, follower, samples and its SHOE offers
(R109 to R125). -/

namespace Sys2Proof.Machine

/-- The filter value after a later sample (R111). -/
def filterStep (strength F x : Nat) : Nat :=
  let D : Int := 16 * (x : Int) - F
  let quotient := D.tdiv (2 ^ strength : Nat)
  let step := if quotient = 0 ∧ D ≠ 0 then (if 0 < D then 1 else -1) else quotient
  ((F : Int) + step).toNat

/-- The filtered reading (R112). -/
def filtered (F : Nat) : Nat := (F + 8) / 16

/-- The distance into the travel, by the wiring (R113, R114). -/
def ShoeConfig.distance (c : ShoeConfig) (f : Nat) : Int :=
  if c.heel < c.toe then (f : Int) - c.heel - c.heelBand else (c.heel : Int) - f - c.heelBand

/-- The normalized position (R115). -/
def ShoeConfig.normalized (c : ShoeConfig) (f : Nat) : Nat :=
  (max 0 (min (c.distance f) c.span)).toNat * 1023 / c.span.toNat

/-- The threshold of a stage (R116). -/
def ShoeConfig.threshold (c : ShoeConfig) (k : Nat) : Nat := k * 1024 / (c.stages + 1)

/-- The largest `k` from 0 to `n` for which `k` is 0 or `reached k`. -/
def largestStage (reached : Nat → Bool) : Nat → Nat
  | 0 => 0
  | k + 1 => if reached (k + 1) then k + 1 else largestStage reached k

/-- The stage a position reaches without hysteresis (R110, R117). -/
def ShoeConfig.reachedStage (c : ShoeConfig) (p : Nat) : Nat :=
  largestStage (fun k => decide (c.threshold k ≤ p)) c.stages

/-- The new target stage from a position and the target stage held (R117). -/
def ShoeConfig.newTargetStage (c : ShoeConfig) (held p : Nat) : Nat :=
  let u := c.reachedStage p
  if held < u then u else largestStage (fun k => decide (c.threshold k ≤ p + c.hysteresis)) held

/-- One stage from `c` toward `t`. -/
def stepToward (c t : Nat) : Nat := if c < t then c + 1 else if t < c then c - 1 else c

/-- The follower at a sample after the first: the displayed stage and the count (R119, R120). -/
def follow (period displayed target : Nat) (count : Option Nat) : Nat × Option Nat :=
  if period = 0 then (target, none)
  else if displayed = target then (displayed, none)
  else match count with
    | none => (displayed, some period)
    | some k =>
      if 1 < k then (displayed, some (k - 1))
      else
        let next := stepToward displayed target
        (next, if next = target then none else some period)

/-- The unit offers a SHOE with the node's own division, its present program and its displayed stage (R123). -/
def offerShoe (s : State) : State :=
  (offer (.shoe s.straps.division (lowByte s.shoe.program) (lowByte s.shoe.displayed)) s).1

/-- The first sample after a start (R110). -/
def firstSample (c : ShoeConfig) (x : Nat) (s : State) : State :=
  let f := filtered (16 * x)
  let p := c.normalized f
  let t := c.reachedStage p
  offerShoe { s with shoe := { s.shoe with
    filter := some (16 * x), reading := some f, position := some p, target := t, displayed := t,
    firstDone := true, follower := none, refresh := some 500 } }

/-- The unit after a later sample, before any offer (R109). -/
def Shoe.sampled (sh : Shoe) (c : ShoeConfig) (x : Nat) : Shoe :=
  let F := filterStep c.filter (sh.filter.getD 0) x
  let f := filtered F
  let p := c.normalized f
  let t := c.newTargetStage sh.target p
  let w := follow c.follower sh.displayed t sh.follower
  { sh with filter := some F, reading := some f, position := some p, target := t, displayed := w.1, follower := w.2 }

/-- A sample (R109): the first sets the unit up, a later one offers a SHOE if the displayed stage changed. -/
def takeSample (c : ShoeConfig) (x : Nat) (s : State) : State :=
  if s.shoe.firstDone then
    let t := { s with shoe := s.shoe.sampled c x }
    if t.shoe.displayed = s.shoe.displayed then t else offerShoe t
  else firstSample c x s

/-- The calibration in use by a unit that samples: the unit is ACTIVE and the node in RUNNING (R105). -/
def State.activeShoe (s : State) : Option ShoeConfig :=
  if s.runs && s.shoe.unit == .active then s.config.shoe else none

/-- Whether the follower count expires at a sample with this reading (R120). -/
def Shoe.followerExpires (sh : Shoe) (c : ShoeConfig) (x : Nat) : Bool :=
  sh.firstDone && c.follower != 0 && sh.displayed != (sh.sampled c x).target &&
    match sh.follower with
    | some k => decide (k ≤ 1)
    | none => false

end Sys2Proof.Machine
end

