-- ==== Sys2Proof/Machine/Clock.lean ====
section
/-! DEFINITION. The clock: one millisecond passing at every timer, and the command of a timer that has run out
(DESIGN CHOICE, log 5). -/

namespace Sys2Proof.Machine

/-- A timer one millisecond on. -/
def tick (timer : Option Nat) : Option Nat := timer.map (· - 1)

/-- An input one millisecond on. -/
def Debounce.tick (d : Debounce) : Debounce := { d with timer := Machine.tick d.timer }

/-- A motion record one millisecond on. -/
def MotionRecord.tick (r : MotionRecord) : MotionRecord :=
  { r with motion := match r.motion with
    | .pulsing d a t => .pulsing d a (t - 1)
    | .settling d a t => .settling d a (t - 1)
    | .resting c d w t => .resting c d w (t - 1)
    | m => m }

/-- The silence state one millisecond on. -/
def Silence.tick : Silence → Silence
  | .fed k t => .fed k (t - 1)
  | x => x

/-- A lamp one millisecond on. -/
def Lamp.tick (l : Lamp) : Lamp := { l with blink := l.blink.map fun b => { b with timer := b.timer - 1 } }

/-- One millisecond passes: every timer that runs is lowered (log 5). -/
def advance (s : State) : State :=
  { s with
    scanner := ⟨s.scanner.stops.map Debounce.tick, s.scanner.pistons.map Debounce.tick, s.scanner.aux.map Debounce.tick⟩
    resolver := { s.resolver with silence := s.resolver.silence.tick }
    sequencer := { s.sequencer with
      motions := s.sequencer.motions.map MotionRecord.tick
      cutHold := tick s.sequencer.cutHold
      startWait := tick s.sequencer.startWait }
    outputs := { s.outputs with
      lamps := s.outputs.lamps.map Lamp.tick
      serviceBlink := s.outputs.serviceBlink.map fun b => (b.1, b.2 - 1) }
    faults := { s.faults with pulse := tick s.faults.pulse }
    shoe := { s.shoe with refresh := tick s.shoe.refresh } }

/-- The command of an auxiliary input that closes in RUNNING (R151). -/
def AuxFunction.press (j : Fin 8) : AuxFunction → Instr
  | .unused => .pressIgnored (.aux j)
  | .set => .setPress j
  | .generalCancel => .generalCancelPress j
  | .divisionalCancel _ => .divisionalCancelPress j
  | .stepNext => .stepNextPress j
  | .stepPrev => .stepPrevPress j
  | .levelUp => .levelUpPress j
  | .levelDown => .levelDownPress j
  | .tutti => .tuttiPress j
  | .program _ => .programPress j

/-- The command of a debounce timer's expiry (R147 to R152). -/
def State.debounceCommand (s : State) (c : Contact) : Instr :=
  match c with
  | .stop n => .stopSenseChange n
  | .piston i =>
    if (s.scanner.pistons[i]).raw then
      if s.runs && s.config.pistons[i] != none then (if s.setHeld then .capturePress i else .recallPress i)
      else .pressIgnored c
    else .pistonRelease c
  | .aux j =>
    if (s.scanner.aux[j]).raw then (if s.runs then (s.config.aux[j]).press j else .pressIgnored c)
    else .pistonRelease c

/-- The command of an input whose debounce timer has run out. -/
def State.debounceDue (s : State) (c : Contact) : Option Instr :=
  if (s.scanner.input c).timer = some 0 then some (s.debounceCommand c) else none

/-- The command of a stop whose motion timer has run out (R63, R64, R68). -/
def State.motionDue (s : State) (n : StopNo) : Option Instr :=
  match (s.sequencer.motions[n]).motion with
  | .pulsing _ _ 0 => some (.pulseExpiry n)
  | .settling _ _ 0 => some (.settleCheck n)
  | .resting _ _ _ 0 => some (.restExpiry n)
  | _ => none

/-- The command of a piston lamp whose blink phase has run out (R192). -/
def State.blinkDue (s : State) (i : Fin 16) : Option Instr :=
  match (s.outputs.lamps[i]).blink with
  | some b => if b.timer = 0 then some (.blinkPhase (.piston i)) else none
  | none => none

/-- The commands of the timers that have run out, in the order the clock takes them (log 5): a sense change before
a settle check, as R67 reads. -/
def State.dueCommands (s : State) : List Instr :=
  (List.finRange 64).filterMap (fun n => s.debounceDue (.stop n)) ++
    (List.finRange 16).filterMap (fun i => s.debounceDue (.piston i)) ++
    (List.finRange 8).filterMap (fun j => s.debounceDue (.aux j)) ++
    (if s.runs then (List.finRange 64).filterMap s.motionDue else []) ++
    (if s.sequencer.cutHold = some 0 ∧ s.pins.supplyGood = true then [.cutHoldEnd] else []) ++
    (if s.sequencer.startWait = some 0 then [.startWaitEnd] else []) ++
    (if s.activeShoe.isSome ∧ s.shoe.refresh = some 0 then [.refreshExpiry] else []) ++
    (match s.resolver.silence with
      | .fed _ 0 => if s.runs then [.silencePeriod] else []
      | _ => []) ++
    (if s.runs then (List.finRange 16).filterMap s.blinkDue else []) ++
    (if s.faults.pulse = some 0 then [.faultPulseEnd] else []) ++
    (match s.node, s.outputs.serviceBlink with
      | .handOnly, some (_, 0) => [.blinkPhase .service]
      | _, _ => [])

/-- The command of the first timer that has run out; none in a node without its supply. -/
def State.dueCommand (s : State) : Option Instr := if s.powered then s.dueCommands.head? else none

end Sys2Proof.Machine
end

