-- ==== Sys2Proof/Machine/Coils.lean ====
section
/-! DEFINITION. The meanings of the timer expiries of a move: pulse, settle and rest (R63 to R68). -/

namespace Sys2Proof.Machine

/-- PULSE_EXPIRY (R63): the coil is released and the stop settles; the freed coil can start the next move (R62). -/
def execPulseExpiry (n : StopNo) (s : State) : Host.Outcome State Fault Refusal :=
  match (s.sequencer.motions[n]).motion with
  | .pulsing d attempt _ =>
    if s.runs then
      .next (startRule { s with sequencer := s.sequencer.pulseEnd n d attempt s.config.settleMs })
    else .next s
  | _ => .next s

/-- SETTLE_CHECK (R64 to R66): the debounced sense is compared with the move's direction. -/
def execSettleCheck (n : StopNo) (s : State) : Host.Outcome State Fault Refusal :=
  match (s.sequencer.motions[n]).motion with
  | .settling d attempt _ =>
    if s.runs then
      .next (startRule (withSequencer (s.sequencer.settleCheck n (s.scanner.senses[n]) d attempt) s))
    else .next s
  | _ => .next s

/-- REST_EXPIRY (R68). -/
def execRestExpiry (n : StopNo) (s : State) : Host.Outcome State Fault Refusal :=
  match (s.sequencer.motions[n]).motion with
  | .resting _ d awaiting _ =>
    if s.runs then
      .next (startRule (withSequencer (s.sequencer.restEnd n (s.scanner.senses[n]) d awaiting) s))
    else .next s
  | _ => .next s

end Sys2Proof.Machine
end

