-- ==== Sys2Proof/Machine/Contacts.lean ====
section
/-! DEFINITION. The meanings of the contact commands: raw contacts, stop sense changes and presses. -/

namespace Sys2Proof.Machine

/-- CONTACT_CHANGE (R147): the raw contact takes a value. A node without its supply runs no debounce timer. -/
def execContactChange (c : Contact) (closed : Bool) (s : State) : Host.Outcome State Fault Refusal :=
  let d := s.scanner.input c
  let e := if s.powered then d.rawChange (Sys2Proof.Machine.Contact.debounceMs c) closed
    else Debounce.started { d with raw := closed }
  .next { s with scanner := s.scanner.withInput c e }

/-- What a sense report does to the sequencer: a hand move withdraws a QUEUED move and clears a marker; the answer
is `none` where the report is ignored (R22 to R24, R75, R76). -/
def Sequencer.handMove (sq : Sequencer) (n : StopNo) : Option Sequencer :=
  match (sq.motions[n]).motion with
  | .atRest => some (sq.atRest n false)
  | .queued _ _ => some (sq.moveDone n)
  | _ => none

/-- The drawn image of a stop takes its new sense; where it changed, the speaking set is recomputed and the
departure check runs (R23, R24, R27). -/
def drawByHand (n : StopNo) (sense : Bool) (s : State) : State :=
  if s.resolver.drawn[n] = sense then s
  else checkDivisional (checkGeneral (refreshSpeaking
    { s with resolver := { s.resolver with drawn := put s.resolver.drawn n sense } }))

/-- The resolver takes or ignores a report of a debounced sense change (R7, R22, R149); a withdrawal is followed by the
start rule (R62, R75). -/
def senseReport (n : StopNo) (sense : Bool) (s : State) : State :=
  if !s.serves n then s
  else match s.node with
    | .running =>
      match s.sequencer.handMove n with
      | some sq =>
        let t := drawByHand n sense (withSequencer sq s)
        if (s.sequencer.motions[n]).motion.rests then t else startRule t
      | none => s
    | .handOnly => refreshSpeaking { s with resolver := { s.resolver with drawn := put s.resolver.drawn n sense } }
    | _ => s

/-- STOP_SENSE_CHANGE (R149): the debounce timer of a stop sense input expires; the change is kept, and reported
in RUNNING and HAND_ONLY (R148). -/
def execStopSenseChange (n : StopNo) (s : State) : Host.Outcome State Fault Refusal :=
  if (s.scanner.input (.stop n)).timer.isSome && s.powered then
    .next (senseReport n (s.scanner.stops[n]).raw (s.debounced (.stop n)))
  else .next s

/-- Whether a command can be the press of an input: the node is in RUNNING and the input's timer runs toward
closed (R148, R150). -/
def State.pressDue (s : State) (c : Contact) : Bool := s.runs && (s.scanner.input c).comesTo true

/-- The scope of a piston (R83). -/
def Piston.scope : Piston → Scope
  | .general _ => .general
  | .divisional _ _ => .divisional

/-- The number of a piston (R83). -/
def Piston.number : Piston → Nat
  | .general g => g
  | .divisional _ d => d

/-- The division a piston's frames carry: its own for a divisional piston, the node's for a general one
(R153, R157). -/
def State.divisionFor (s : State) : Piston → Byte
  | .general _ => divisionByte s.straps.division
  | .divisional d _ => divisionByte d

/-- A recall press: coalesced against the queue, or offered as a new RECALL (R153, R154, R156). -/
def recallEffect (p : Piston) (s : State) : State :=
  let division := s.divisionFor p
  let number := lowByte p.number
  let level := lowByte s.resolver.level
  let press := fun serial => Body.recall p.scope division number level serial
  if s.link.queue.any fun e => e.matchesPress p.scope division then
    if s.config.coalesceLast then
      match rewritePress p.scope division number level s.resolver.serial s.link.queue with
      | some q => advanceSerial { s with link := { s.link with queue := q } }
      | none => (offerWithSerial press s).1
    else s
  else (offerWithSerial press s).1

/-- RECALL_PRESS (R153): a piston with a map entry closes while SET is not held. -/
def execRecallPress (i : Fin 16) (s : State) : Host.Outcome State Fault Refusal :=
  match s.config.pistons[i] with
  | some p =>
    if s.pressDue (.piston i) && !s.setHeld then .next (recallEffect p (s.debounced (.piston i))) else .next s
  | none => .next s

/-- A capture press: refused at a locked level, or offered as a CAPTURE; a refusal blinks the piston's lamps fast
(R53, R95, R157). -/
def captureEffect (p : Piston) (s : State) : State :=
  if s.store.locked s.resolver.level then blinkPiston .fast p s
  else
    match offerWithSerial
        (fun serial => .capture p.scope (s.divisionFor p) (lowByte p.number) (lowByte s.resolver.level) serial) s with
    | (t, true) => t
    | (t, false) => blinkPiston .fast p t

/-- CAPTURE_PRESS (R157): a piston with a map entry closes while SET is held. -/
def execCapturePress (i : Fin 16) (s : State) : Host.Outcome State Fault Refusal :=
  match s.config.pistons[i] with
  | some p =>
    if s.pressDue (.piston i) && s.setHeld then .next (captureEffect p (s.debounced (.piston i))) else .next s
  | none => .next s

/-- PISTON_RELEASE (R150): a debounced opening clears the press latch and does nothing else. -/
def execPistonRelease (c : Contact) (s : State) : Host.Outcome State Fault Refusal :=
  if c.hasLatch && s.powered && (s.scanner.input c).comesTo false then .next (s.debounced c) else .next s

/-- The press of an auxiliary input whose function is `f` does `effect`, in RUNNING (R151). -/
def auxPress (j : Fin 8) (f : AuxFunction) (effect : State → State) (s : State) : Host.Outcome State Fault Refusal :=
  if s.pressDue (.aux j) && s.config.aux[j] == f then .next (effect (s.debounced (.aux j))) else .next s

/-- SET_PRESS (R152): the press latch is set, and makes piston presses captures while it stays set. -/
def execSetPress (j : Fin 8) (s : State) : Host.Outcome State Fault Refusal := auxPress j .set (fun t => t) s

/-- GENERAL_CANCEL_PRESS (R158). -/
def execGeneralCancelPress (j : Fin 8) (s : State) : Host.Outcome State Fault Refusal :=
  auxPress j .generalCancel (fun t => (offer (.cancel .general (divisionByte t.straps.division)) t).1) s

/-- DIVISIONAL_CANCEL_PRESS (R158): the division is the one the input's configuration names. -/
def execDivisionalCancelPress (j : Fin 8) (s : State) : Host.Outcome State Fault Refusal :=
  match s.config.aux[j] with
  | .divisionalCancel d =>
    auxPress j (.divisionalCancel d) (fun t => (offer (.cancel .divisional (divisionByte d)) t).1) s
  | _ => .next s

/-- STEP_NEXT_PRESS (R97, R159). -/
def execStepNextPress (j : Fin 8) (s : State) : Host.Outcome State Fault Refusal :=
  auxPress j .stepNext (fun t => (offerWithSerial (.step true) t).1) s

/-- STEP_PREV_PRESS (R97, R159). -/
def execStepPrevPress (j : Fin 8) (s : State) : Host.Outcome State Fault Refusal :=
  auxPress j .stepPrev (fun t => (offerWithSerial (.step false) t).1) s

/-- LEVEL_UP_PRESS (R103, R160). -/
def execLevelUpPress (j : Fin 8) (s : State) : Host.Outcome State Fault Refusal :=
  auxPress j .levelUp (fun t => (offer (.level true) t).1) s

/-- LEVEL_DOWN_PRESS (R103, R160). -/
def execLevelDownPress (j : Fin 8) (s : State) : Host.Outcome State Fault Refusal :=
  auxPress j .levelDown (fun t => (offer (.level false) t).1) s

/-- TUTTI_PRESS (R143, R161). -/
def execTuttiPress (j : Fin 8) (s : State) : Host.Outcome State Fault Refusal :=
  auxPress j .tutti (fun t => (offer .tutti t).1) s

/-- A press of PROGRAM_k at the shoe unit: an ACTIVE unit takes another program and offers a SHOE (R122, R162). -/
def programEffect (k : Fin 4) (s : State) : State :=
  if s.activeShoe.isSome ∧ s.shoe.program ≠ k.val then offerShoe { s with shoe := { s.shoe with program := k.val } }
  else s

/-- PROGRAM_PRESS (R122, R162). -/
def execProgramPress (j : Fin 8) (s : State) : Host.Outcome State Fault Refusal :=
  match s.config.aux[j] with
  | .program k => auxPress j (.program k) (programEffect k) s
  | _ => .next s

/-- Whether a closing of an input makes no press effect: outside RUNNING, at an unused input, and at a program
input of a node that is no shoe host (R148, R150, R151, R162). -/
def State.pressHasNoEffect (s : State) (c : Contact) : Bool :=
  !s.runs || match c with
    | .stop _ => false
    | .piston i => s.config.pistons[i] == none
    | .aux j => match s.config.aux[j] with
      | .unused => true
      | .program _ => !s.isHost
      | _ => false

/-- PRESS_IGNORED (R148, R150): the closing is kept as the debounced value and makes no press effect. -/
def execPressIgnored (c : Contact) (s : State) : Host.Outcome State Fault Refusal :=
  if c.hasLatch && s.powered && (s.scanner.input c).comesTo true && s.pressHasNoEffect c then .next (s.debounced c)
  else .next s

end Sys2Proof.Machine
end

