-- ==== Sys2Proof/Machine/Wire.lean ====
section
/-! DEFINITION. A frame as bits on the console link: parts, check, stuffing and end field, and how a receiver
assembles a frame from the bits it reads (R163 to R166, R175, R176). A bit is `true` when recessive, read as 1. -/

namespace Sys2Proof.Machine

/-- The `k` low bits of `n`, most significant first (R164). -/
def msbFirst : Nat → Nat → List Bool
  | 0, _ => []
  | k + 1, n => n.testBit k :: msbFirst k n

/-- The number whose bits, most significant first, are `bits`. -/
def ofMsbFirst (bits : List Bool) : Nat := bits.foldl (fun n b => 2 * n + b.toNat) 0

/-- Class, address, kind, length and payload in the order they are sent (R164). -/
def frameFields (f : RawFrame) : List Bool :=
  msbFirst 3 f.cls.toNat ++ msbFirst 6 f.sender.toNat ++ msbFirst 5 f.kind.toNat ++
    msbFirst 4 f.payload.length ++ f.payload.flatMap fun b => msbFirst 8 b.toNat

/-- The arbitration field, class × 64 + address (R164). -/
def arbitrationField (f : RawFrame) : BitVec 9 := f.cls ++ f.sender

/-- The check register after one more frame bit (R166). -/
def checkStep (reg : BitVec 16) (b : Bool) : BitVec 16 :=
  if reg.msb != b then (reg <<< 1) ^^^ 0x1021#16 else reg <<< 1

/-- The check of a list of frame bits: the register starts with all bits set (R166). -/
def frameCheck (bits : List Bool) : BitVec 16 := bits.foldl checkStep 0xFFFF#16

/-- The bits from the start bit to the last check bit, before stuffing (R164). -/
def bareFrame (f : RawFrame) : List Bool :=
  false :: (frameFields f ++ msbFirst 16 (frameCheck (frameFields f)).toNat)

/-- The run of equal bits that the stuffing counts (R165). -/
structure BitRun where
  last : Bool
  length : Nat
deriving DecidableEq, Repr

/-- The run after one more bit. -/
def BitRun.push (r : BitRun) (b : Bool) : BitRun :=
  if b = r.last ∧ 0 < r.length then ⟨b, r.length + 1⟩ else ⟨b, 1⟩

/-- Before the start bit no bit has been counted. -/
def BitRun.start : BitRun := ⟨true, 0⟩

/-- Bits with a bit of the other value after 8 of one value in a row; the stuffed bit begins the next run, and
one may fall due after the last bit (R165). -/
def stuffFrom (r : BitRun) : List Bool → List Bool
  | [] => if r.length = 8 then [!r.last] else []
  | b :: bs =>
    if r.length = 8 then (!r.last) :: b :: stuffFrom ((BitRun.mk (!r.last) 1).push b) bs
    else b :: stuffFrom (r.push b) bs

/-- The end field: a dominant end mark and 7 recessive bits (R164). -/
def endField : List Bool := [false, true, true, true, true, true, true, true]

/-- The bits of a frame on the line (R164, R165). -/
def frameBits (f : RawFrame) : List Bool := stuffFrom BitRun.start (bareFrame f) ++ endField

/-- What a receiver has when it has tried to read `n` bits without their stuff bits. -/
inductive BitsRead where
  /-- The bits, the run as it then stands, and what is left to read. -/
  | got (bits : List Bool) (run : BitRun) (rest : List Bool)
  /-- The bit after a run of 8 equals the run (R165). -/
  | stuffError
  /-- The line has not carried enough bits yet. -/
  | wanting
deriving DecidableEq, Repr

/-- Puts a bit before the bits read. -/
def BitsRead.cons (b : Bool) : BitsRead → BitsRead
  | .got bits run rest => .got (b :: bits) run rest
  | .stuffError => .stuffError
  | .wanting => .wanting

/-- Reads `n` bits, taking off the stuff bits between them (R165, R175). `due` says that the bit before this one
ended a run of 8, so that this one is a stuff bit. -/
def readBits : (n : Nat) → (run : BitRun) → (line : List Bool) → BitsRead
  | 0, run, line => .got [] run line
  | _ + 1, _, [] => .wanting
  | n + 1, run, b :: line =>
    if run.length = 8 then
      if b = run.last then .stuffError
      else match line with
        | [] => .wanting
        | c :: line' => (readBits n ((BitRun.mk b 1).push c) line').cons c
    else (readBits n (run.push b) line).cons b

/-- Takes off the stuff bit that falls due after the last check bit, if one does (R165). -/
def readLastStuff (run : BitRun) (line : List Bool) : BitsRead :=
  if run.length = 8 then
    match line with
    | [] => .wanting
    | b :: rest => if b = run.last then .stuffError else .got [] ⟨b, 1⟩ rest
  else .got [] run line

/-- What becomes of the bits a receiver has read from a start bit on (R175, R176). -/
inductive Assembly where
  | taken (f : RawFrame)
  | badCheck (f : RawFrame)
  | formatError
  | unfinished
deriving DecidableEq, Repr

/-- The end field as read so far: broken, complete or still to come (R175). -/
def judgeEnd (whole : Assembly) (line : List Bool) : Assembly :=
  if line.take 8 = endField then whole
  else if (line.take 8).isPrefixOf endField then .unfinished
  else .formatError

/-- The bytes of a list of bits, 8 bits each, most significant first. -/
def bytesOfBits : Nat → List Bool → List Byte
  | 0, _ => []
  | k + 1, bits => BitVec.ofNat 8 (ofMsbFirst (bits.take 8)) :: bytesOfBits k (bits.drop 8)

/-- The frame whose fields are `header` (class, address, kind, length) and `payload`. -/
def frameOfBits (header : List Bool) (len : Nat) (payload : List Bool) : RawFrame where
  cls := BitVec.ofNat 3 (ofMsbFirst (header.take 3))
  sender := BitVec.ofNat 6 (ofMsbFirst ((header.drop 3).take 6))
  kind := BitVec.ofNat 5 (ofMsbFirst ((header.drop 9).take 5))
  payload := bytesOfBits len payload

/-- Assembles a frame from the bits read, the start bit first (R164, R165, R175, R176). A recessive first bit begins no
frame, so there is nothing to judge (R175). -/
def assemble (line : List Bool) : Assembly :=
  if line.head? = some true then .unfinished
  else match readBits 19 BitRun.start line with
  | .stuffError => .formatError
  | .wanting => .unfinished
  | .got head run rest =>
    let header := head.drop 1
    let len := ofMsbFirst (header.drop 14)
    if 8 < len then .formatError
    else match readBits (8 * len) run rest with
      | .stuffError => .formatError
      | .wanting => .unfinished
      | .got payload run rest =>
        match readBits 16 run rest with
        | .stuffError => .formatError
        | .wanting => .unfinished
        | .got check run rest =>
          match readLastStuff run rest with
          | .stuffError => .formatError
          | .wanting => .unfinished
          | .got _ _ rest =>
            let f := frameOfBits header len payload
            judgeEnd (if ofMsbFirst check = (frameCheck (header ++ payload)).toNat then .taken f else .badCheck f) rest

end Sys2Proof.Machine
end

