-- ==== Sys2Proof/Machine/LinkEvents.lean ====
section
/-! DEFINITION. The meanings of the line commands, of frames ignored as unknown, and of the offers the node makes when
a place of its queue frees. -/

namespace Sys2Proof.Machine

/-- The line state of a node that reads or ends a frame. -/
def withLine (l : Line) (s : State) : State := { s with link := { s.link with line := l } }

/-- LINK_IDLE (R167, R170): the 12th recessive bit in a row; an attempt may start. Within a frame it cannot occur,
and in STARTING the link interface stays in SEEKING. -/
def execLinkIdle (s : State) : Host.Outcome State Fault Refusal :=
  if s.live && s.link.line != .frame then .next (startAttempt (withLine .idle s)) else .next s

/-- START_BIT_READ (R167, R175): a dominant bit in IDLE or GAP begins a frame of another station. -/
def execStartBitRead (s : State) : Host.Outcome State Fault Refusal :=
  if s.live && (s.link.line == .idle || s.link.line == .gap) then .next (withLine .frame s) else .next s

/-- The arbitration field on the line is lower than the one this node sends: the head keeps its place in the order,
is no longer under way, and its bound payload is forgotten (R171, R181, R184). -/
def execArbitrationLost (field : BitVec 9) (s : State) : Host.Outcome State Fault Refusal :=
  match s.link.sending with
  | some f =>
    if field < arbitrationField f then
      .next { s with link := { s.link with sending := none, queue := releaseHead s.link.queue } }
    else .next s
  | none => .next s

/-- READBACK_MISMATCH (R172): the sender drops its frame, sets READBACK and goes to SEEKING. -/
def execReadbackMismatch (s : State) : Host.Outcome State Fault Refusal :=
  if s.link.sending.isSome then .next (setFlag .readback (headLeaves (withLine .seeking s))) else .next s

/-- Whether the node reads a frame of another station that may end now: its link works, it sends nothing, and it
is not SEEKING (R175, R176). -/
def State.receives (s : State) : Bool := s.live && s.link.sending.isNone && s.link.line != .seeking

/-- FORMAT_ERROR (R175): the frame is discarded, LINK_CRC is set and the line state is SEEKING. -/
def execFormatError (bits : List Bool) (s : State) : Host.Outcome State Fault Refusal :=
  if s.receives ∧ assemble bits = .formatError then .next (setFlag .linkCrc (withLine .seeking s)) else .next s

/-- Whether an assembly ended in a bad check (R176). -/
def Assembly.failsCheck : Assembly → Bool
  | .badCheck _ => true
  | _ => false

/-- BAD_CHECK (R176): the frame is discarded, LINK_CRC is set and the line state is GAP. -/
def execBadCheck (bits : List Bool) (s : State) : Host.Outcome State Fault Refusal :=
  if s.receives && (assemble bits).failsCheck then .next (setFlag .linkCrc (withLine .gap s)) else .next s

/-- Whether the values of a frame of known kind are out of range, so that the node ignores it and sets
UNKNOWN_KIND (R178, R179). A CONFIG-WRITE is judged at the target before its service mode is (R204; log 34). -/
def State.rangeFault (s : State) : Instr → Bool
  | .generalRecall _ _ p l _ _ => s.runs && !pistonInRange .general p l
  | .divisionalRecall _ d p l _ _ => s.runs && !(pistonInRange .divisional p l && divisionInRange d)
  | .generalCapture _ _ p l _ => s.runs && !pistonInRange .general p l
  | .divisionalCapture _ d p l _ => s.runs && !(pistonInRange .divisional p l && divisionInRange d)
  | .divisionalCancel _ d => s.runs && !divisionInRange d
  | .configWrite _ t offset data => s.live && s.isTarget t && decide (128 < offset.toNat + data.length)
  | .unknownKind f => s.runs && f.knownKind.isSome
  | _ => false

/-- Whether a taken frame is ignored with UNKNOWN_KIND: its kind, class or length breaks the table, or a value is
out of range where the node acts on the kind (R177, R179). -/
def State.turnsAway (s : State) (f : RawFrame) : Bool := f.knownKind.isNone || s.rangeFault (commandOf f)

/-- UNKNOWN_KIND (R177, R179): a taken frame that no typed command stands for, or that the node turns away, is
ignored, with UNKNOWN_KIND set where it turns it away. -/
def execUnknownKind (f : RawFrame) (s : State) : Host.Outcome State Fault Refusal :=
  if commandOf f = .unknownKind f ∨ s.turnsAway f = true then
    .next (takeFrame (.unknownKind f) (fun _ t => if t.turnsAway f then setFlag .unknownKind t else t) s)
  else .next s

/-- FAULT_NOTE_RETRY (R201): while a FAULT-NOTE is owed, the fault set offers it again when a place has freed. -/
def execFaultNoteRetry (s : State) : Host.Outcome State Fault Refusal :=
  if s.live && s.faults.notePending && s.faults.retryDue then
    .next (offerNote { s with faults := { s.faults with retryDue := false } })
  else .next s

/-- FAULT_NOTE (R178, R200): no node acts on a FAULT-NOTE taken; one of its own, sent to the end with a start
cause, sets the start cause to none. -/
def execFaultNote (a : Address) (high low count : Byte) (s : State) : Host.Outcome State Fault Refusal :=
  .next (takeFrame (.faultNote a high low count)
    (fun own t =>
      if own ∧ high.extractLsb' 2 2 ≠ 0#2 then { t with faults := { t.faults with cause := .none } } else t) s)

/-- STORE_DATA_TAKEN (R178): no node acts on a STORE-DATA taken. -/
def execStoreDataTaken (a : Address) (part : Byte) (data : List Byte) (s : State) : Host.Outcome State Fault Refusal :=
  .next (takeFrame (.storeDataTaken a part data) (fun _ t => t) s)

/-- SCAN_REPLY_TAKEN (R178): no node acts on a SCAN-REPLY taken. -/
def execScanReplyTaken (a : Address) (found high low : Byte) (s : State) : Host.Outcome State Fault Refusal :=
  .next (takeFrame (.scanReplyTaken a found high low) (fun _ t => t) s)

end Sys2Proof.Machine
end

