-- ==== Sys2Proof/Config.lean ====
section
/-! DEFINITION. The free values: what the manual leaves open, as constants without a body. -/

namespace Sys2Proof

/-- What a nonvolatile byte holds after a supply loss cut its writing short (R35, R49, R216). Free: the state
counts which of these values were used (log 10, 11). -/
opaque Config.freeByte : Nat → Byte

end Sys2Proof
end

