-- ==== Sys2Proof/Machine/StoreOps.lean ====
section
/-! DEFINITION. The store write list, its writes and verifies, what a supply loss leaves of a nonvolatile write, and
the reload of the tutti and crescendo sets (R35, R41 to R49, R142, R216). -/

namespace Sys2Proof.Machine

/-- The most writes the list holds (R41). -/
def writeLimit : Nat := 8

/-- The entries of the write list that wait: all but the head while a write is in progress (R41). -/
def Store.waiting (st : Store) : List WriteEntry := if st.stage.isSome then st.writes.drop 1 else st.writes

/-- Replaces the waiting entry for the same index, if there is one (R43). -/
def replaceWrite (e : WriteEntry) : List WriteEntry → Option (List WriteEntry)
  | [] => none
  | f :: fs => if f.index = e.index then some (e :: fs) else (replaceWrite e fs).map (f :: ·)

/-- The write list after a write is decided against it, or `none` where it is refused (R42). -/
def Store.placeWrite (st : Store) (e : WriteEntry) : Option (List WriteEntry) :=
  match replaceWrite e st.waiting with
  | some ws => some ((if st.stage.isSome then st.writes.take 1 else []) ++ ws)
  | none => if st.writes.length < writeLimit then some (st.writes ++ [e]) else none

/-- The record as its write begins: written, and changed by the write's source; the bytes land in the array when
the write ends (R35, R36, R45; log 17). -/
def Record.begun (r : Record) (source : Source) : Record :=
  { r with written := true, changed := source == .capture }

/-- The store starts the head entry's write when the list is not empty, no write is in progress, the supply is
good and the node is not in STARTING (R45, R49, R50). -/
def startWrite (s : State) : State :=
  match s.store.stage, s.store.writes with
  | none, e :: _ =>
    if s.pins.supplyGood && s.live then
      { s with store := { s.store with
          array := s.store.array.write e.index ((s.store.array.read e.index).begun e.source)
          stage := some .storing } }
    else s
  | _, _ => s

/-- A write offered to the store; the answer is admitted (`true`) or refused (R42, R44). -/
def offerWrite (index : Nat) (bytes : EntryBytes) (source : Source) (s : State) : State × Bool :=
  match s.store.placeWrite ⟨index, bytes, source⟩ with
  | some ws => (startWrite { s with store := { s.store with writes := ws } }, true)
  | none => (setFlag .storeFull s, false)

/-- The head entry leaves the list and the next, if any, starts (R46, R47). -/
def writeDone (s : State) : State :=
  startWrite { s with store := { s.store with writes := s.store.writes.drop 1, stage := none } }

/-- The array with a record's entry bytes and check byte as they now stand. -/
def Memory.land (m : Memory) (i : Nat) (a : ArrayBytes) : Memory :=
  m.write i { m.read i with bytes := a.bytes, check := a.check }

/-- What the write of an entry means to store (R45). -/
def WriteEntry.meant (e : WriteEntry) : ArrayBytes := ⟨e.bytes, balance e.bytes⟩

/-- The array write of the head entry ends and is verified: `readBack` is what the array reads back, or `none`
where it reads back as meant (R46, R47). -/
def verifyHead (e : WriteEntry) (readBack : Option ArrayBytes) (s : State) : State :=
  let a := readBack.getD e.meant
  let t := { s with store := { s.store with array := s.store.array.land e.index a } }
  if a = e.meant then writeDone t else { t with store := { t.store with stage := some .forcing } }

/-- The forcing write of the head entry ends: `held` is what the array then holds, or `none` where the check byte
was forced (R47). -/
def forcingEnds (e : WriteEntry) (held : Option ArrayBytes) (s : State) : State :=
  let bytes := (s.store.array.read e.index).bytes
  let a := held.getD ⟨bytes, forcedCheck bytes⟩
  writeDone (setFlag .damaged { s with store := { s.store with array := s.store.array.land e.index a } })

/-! ### A nonvolatile write cut short (log 10, 11, 42) -/

/-- A record part way written: what it holds is free, but it fails its check (R35, R49). `next` is the first free
value used. -/
def Record.torn (r : Record) (next : Nat) : Record :=
  let bytes : EntryBytes := table fun k => Config.freeByte (next + k.val)
  let off := Config.freeByte (next + 16)
  { r with bytes := bytes, check := balance bytes + (if off = 0#8 then 1#8 else off) }

/-- The record whose write is in progress is left part way written (R49). A forcing write that is cut short leaves its
16 entry bytes free as well (DESIGN CHOICE, log 42). -/
def tearRecord (s : State) : State :=
  match s.store.stage, s.store.writes with
  | some _, e :: _ =>
    { s with
      store := { s.store with
        array := s.store.array.write e.index (((s.store.array.read e.index).begun e.source).torn s.freeNext) }
      freeNext := s.freeNext + 17 }
  | _, _ => s

/-- A block part way written: the bytes of the range are free, but the block fails its check (R216). The last of
them is what keeps the sum from 0. -/
def tornBlock (b : Vector Byte 128) (offset count next : Nat) : Vector Byte 128 :=
  let free : Vector Byte 128 :=
    table fun k => if offset ≤ k.val ∧ k.val < offset + count then Config.freeByte (next + k.val) else b[k]
  if free.toList.sum = 0#8 then
    table fun k => if k.val = offset then free[k] + 1#8 else free[k]
  else free

/-- A CONFIG-WRITE that no later frame has sealed may be left part written; which it is, is free (R216). -/
def tearBlock (s : State) : State :=
  match s.blockWrite with
  | none => s
  | some (offset, count) =>
    { s with
      block := if Config.freeByte s.freeNext = 0#8 then s.block else tornBlock s.block offset count (s.freeNext + 1)
      blockWrite := none
      freeNext := s.freeNext + 129 }

/-! ### Reload after a service write -/

/-- The tutti sets of the record of a level (R137). -/
def loadTutti (level : Nat) (s : State) : State :=
  let entries := s.combination (tuttiIndex level)
  { s with resolver := { s.resolver with
      tuttiAdd := stopsWith .draw entries
      tuttiSilence := stopsWith .retire entries } }

/-- The addition set of a stage (R131). -/
def loadStage (program stage : Nat) (s : State) : State :=
  { s with resolver := { s.resolver with
      addition := stageView s.config.stops (s.store.answer (stageIndex program stage)) } }

/-- The reload after an admitted write of source SERVICE (R142). -/
def reloadSets (index : Nat) (s : State) : State :=
  if s.resolver.tutti = true ∧ index = tuttiIndex s.resolver.tuttiLevel then
    refreshSpeaking (loadTutti s.resolver.tuttiLevel s)
  else if 0 < s.resolver.stage ∧ index = stageIndex s.resolver.program s.resolver.stage then
    refreshSpeaking (loadStage s.resolver.program s.resolver.stage s)
  else s

end Sys2Proof.Machine
end

