-- ==== Sys2Proof/Machine/Registration.lean ====
section
/-! DEFINITION. The meanings of the frames the resolver acts on: RECALL, CANCEL, CAPTURE, DEVIATE and LEVEL. -/

namespace Sys2Proof.Machine

/-- What a node does with a taken frame that only a RUNNING node acts on: it turns a frame out of range away with
UNKNOWN_KIND, and else does `act` (R178, R179). -/
def whenRunning (c : Instr) (act : State → State) (s : State) : State :=
  if s.rangeFault c then setFlag .unknownKind s else if s.runs then act s else s

/-- Whether a division byte names the node's own division (R11). -/
def State.ownDivision (s : State) (d : Byte) : Bool := d == divisionByte s.straps.division

/-- A general RECALL acted on (R12, R87): the reads and moves, then the references, then the speaking set, the
lamps and the start rule. -/
def generalRecallEffect (tag : Tag) (piston level : Byte) (s : State) : State :=
  let i := generalIndex level.toNat piston.toNat
  let entries := s.combination i
  let t := applyTargets (entryTargets entries s.resolver.drawn) (readRecord i s)
  startRule (refreshLamps (refreshSpeaking (setGeneral (Reference.fresh tag piston entries) level t)))

/-- GENERAL_RECALL (R12). -/
def execGeneralRecall (a : Address) (d p l n o : Byte) (s : State) : Host.Outcome State Fault Refusal :=
  .next (takeFrame (.generalRecall a d p l n o)
    (fun _ => whenRunning (.generalRecall a d p l n o) (generalRecallEffect ⟨a, n⟩ p l)) s)

/-- A divisional RECALL of the own division acted on (R13). -/
def divisionalRecallEffect (tag : Tag) (piston level : Byte) (s : State) : State :=
  let i := divisionalIndex level.toNat piston.toNat
  let entries := s.combination i
  let t := applyTargets (entryTargets entries s.resolver.drawn) (readRecord i s)
  startRule (checkGeneral (refreshLamps (refreshSpeaking (setDivisional (Reference.fresh tag piston entries) t))))

/-- DIVISIONAL_RECALL (R13): a node of another division only follows it with its lamp reference (R87). -/
def execDivisionalRecall (a : Address) (d p l n o : Byte) (s : State) : Host.Outcome State Fault Refusal :=
  .next (takeFrame (.divisionalRecall a d p l n o)
    (fun _ => whenRunning (.divisionalRecall a d p l n o) fun t =>
      if t.ownDivision d then divisionalRecallEffect ⟨a, n⟩ p l t
      else refreshLamps (setLampReference (divisionOf d) (some ⟨⟨a, n⟩, p.toNat, false⟩) t)) s)

/-- Every stop below S to off (R10, R15, R16). -/
def retireAll (s : State) : State := applyTargets StopSet.empty s

/-- Tutti off: both sets empty, the lamp OFF, the tutti level as it was (R139, R140). -/
def tuttiGoesOff (s : State) : State :=
  { s with resolver := { s.resolver with
      tutti := false, tuttiAdd := StopSet.empty, tuttiSilence := StopSet.empty, tuttiLamp := false } }

/-- Both references and every lamp reference cleared (R15, R87). -/
def clearReferences (s : State) : State :=
  { s with resolver := { s.resolver with
      general := none, divisional := none, lampRefs := Vector.replicate 16 none } }

/-- A general CANCEL acted on (R15, R140). -/
def generalCancelEffect (s : State) : State :=
  startRule (refreshLamps (refreshSpeaking (tuttiGoesOff (clearReferences (retireAll s)))))

/-- GENERAL_CANCEL (R15). -/
def execGeneralCancel (a : Address) (d : Byte) (s : State) : Host.Outcome State Fault Refusal :=
  .next (takeFrame (.generalCancel a d) (fun _ => whenRunning (.generalCancel a d) generalCancelEffect) s)

/-- A divisional CANCEL of the own division acted on (R16). -/
def divisionalCancelEffect (s : State) : State :=
  let t := retireAll s
  startRule (checkGeneral (refreshLamps (refreshSpeaking { t with resolver := { t.resolver with divisional := none } })))

/-- DIVISIONAL_CANCEL (R16): a node of another division only clears its lamp reference (R87). -/
def execDivisionalCancel (a : Address) (d : Byte) (s : State) : Host.Outcome State Fault Refusal :=
  .next (takeFrame (.divisionalCancel a d)
    (fun _ => whenRunning (.divisionalCancel a d) fun t =>
      if t.ownDivision d then divisionalCancelEffect t
      else refreshLamps (setLampReference (divisionOf d) none t)) s)

/-- The blink of a capture: slow for an admitted write, fast for a refused one (R94). -/
def captureBlink (admitted : Bool) : BlinkKind := if admitted then .slow else .fast

/-- A general CAPTURE acted on (R17, R18, R20, R94). -/
def generalCaptureEffect (tag : Tag) (piston level : Byte) (s : State) : State :=
  let entries := s.generalCaptureEntries
  let w := offerWrite (generalIndex level.toNat piston.toNat) (packEntries entries) .capture s
  blinkPiston (captureBlink w.2) (.general piston.toNat)
    (refreshLamps (setGeneral (Reference.fresh tag piston entries) level w.1))

/-- GENERAL_CAPTURE (R17). -/
def execGeneralCapture (a : Address) (d p l n : Byte) (s : State) : Host.Outcome State Fault Refusal :=
  .next (takeFrame (.generalCapture a d p l n)
    (fun _ => whenRunning (.generalCapture a d p l n) (generalCaptureEffect ⟨a, n⟩ p l)) s)

/-- A divisional CAPTURE of the own division acted on (R19, R20, R94). -/
def divisionalCaptureEffect (tag : Tag) (piston level : Byte) (s : State) : State :=
  let entries := s.divisionalCaptureEntries
  let w := offerWrite (divisionalIndex level.toNat piston.toNat) (packEntries entries) .capture s
  blinkPiston (captureBlink w.2) (.divisional s.straps.division piston.toNat)
    (refreshLamps (setDivisional (Reference.fresh tag piston entries) w.1))

/-- DIVISIONAL_CAPTURE (R19): a node of another division sets its lamp reference and blinks slow (R87, R94). -/
def execDivisionalCapture (a : Address) (d p l n : Byte) (s : State) : Host.Outcome State Fault Refusal :=
  .next (takeFrame (.divisionalCapture a d p l n)
    (fun _ => whenRunning (.divisionalCapture a d p l n) fun t =>
      if t.ownDivision d then divisionalCaptureEffect ⟨a, n⟩ p l t
      else blinkPiston .slow (.divisional (divisionOf d) p.toNat)
        (refreshLamps (setLampReference (divisionOf d) (some ⟨⟨a, n⟩, p.toNat, false⟩) t))) s)

/-- The dark mark of a reference whose tag matches; a tag address of 0 matches none (R88). -/
def Reference.darken (address serial : Byte) (r : Reference) : Reference :=
  if address ≠ 0#8 ∧ addressByte r.tag.address = address ∧ r.tag.serial = serial then { r with dark := true } else r

/-- The dark mark of a lamp reference whose tag matches; a tag address of 0 matches none (R88). -/
def LampReference.darken (address serial : Byte) (r : LampReference) : LampReference :=
  if address ≠ 0#8 ∧ addressByte r.tag.address = address ∧ r.tag.serial = serial then { r with dark := true } else r

/-- The record a DEVIATE looks at is darkened where its tag matches; a DEVIATE that matches none is ignored
(R88, R89). -/
def deviateEffect (scope division address serial : Byte) (s : State) : State :=
  if scope = 0#8 then
    refreshLamps { s with resolver := { s.resolver with
      general := s.resolver.general.map (Reference.darken address serial) } }
  else if scope = 1#8 ∧ division.toNat ≤ 15 then
    if s.ownDivision division then
      refreshLamps { s with resolver := { s.resolver with
        divisional := s.resolver.divisional.map (Reference.darken address serial) } }
    else
      refreshLamps (setLampReference (divisionOf division)
        ((s.resolver.lampRefs[Division.place (divisionOf division)]).map (LampReference.darken address serial)) s)
  else s

/-- DEVIATE (R88). -/
def execDeviate (a : Address) (scope division address serial : Byte) (s : State) : Host.Outcome State Fault Refusal :=
  .next (takeFrame (.deviate a scope division address serial)
    (fun _ => whenRunning (.deviate a scope division address serial) (deviateEffect scope division address serial)) s)

/-- LEVEL (R4, R104): the current level takes the frame's level, clamped (R179). -/
def execLevel (a : Address) (l : Byte) (s : State) : Host.Outcome State Fault Refusal :=
  .next (takeFrame (.level a l)
    (fun _ => whenRunning (.level a l) fun t =>
      { t with resolver := { t.resolver with level := clampLevel l } }) s)

/-- LOCK (R51, R52): in RUNNING and in HAND_ONLY the lock flag of a level, clamped, takes the value. -/
def execLock (a : Address) (l locked : Byte) (s : State) : Host.Outcome State Fault Refusal :=
  .next (takeFrame (.lock a l locked)
    (fun _ t =>
      { t with store := { t.store with
          locks := t.store.locks.setIfInBounds (clampLevel l) (locked != 0#8) } }) s)

end Sys2Proof.Machine
end

