-- ==== Sys2Proof/Machine/Crescendo.lean ====
section
/-! DEFINITION. The meanings of the SHOE and TUTTI frames and of the silence timer (R129 to R140). -/

namespace Sys2Proof.Machine

/-- The program of a SHOE as the node reads it (R130). -/
def clampProgram (program : Byte) : Nat := min program.toNat 3

/-- The stage of a SHOE as the node reads it (R130, R179). -/
def clampStage (stage : Byte) : Nat := min stage.toNat 31

/-- Step 5 of a SHOE taken: SILENT ends, and the timer is loaded (R131, R133, R135). -/
def feedSilence (s : State) : State :=
  let t := if s.resolver.silence = .silent then clearFlag .shoeSilent s else s
  { t with resolver := { t.resolver with silence := .fed 5 500 } }

/-- Steps 1 to 4 of a SHOE taken: program, stage, addition set and lamp (R131). -/
def applyStage (program stage : Nat) (s : State) : State :=
  let t := { s with resolver := { s.resolver with
    program := program, stage := stage, crescendoLamp := decide (0 < stage) } }
  if stage = 0 then { t with resolver := { t.resolver with addition := StopSet.empty } }
  else loadStage program stage (readRecord (stageIndex program stage) t)

/-- What a shoe host does beyond what every node does: a SHOE of another address is reported, and an ACTIVE unit's
own SHOE reloads the refresh timer and is compared with the present stage and program (R124, R125, R136;
log 22). -/
def hostTakesShoe (a : Address) (program stage : Nat) (s : State) : State :=
  if !s.isHost then s
  else if a ≠ s.straps.address then setFlag .secondShoe s
  else if s.activeShoe.isSome then
    let t := { s with shoe := { s.shoe with refresh := some 500 } }
    if program = s.shoe.program ∧ stage = s.shoe.displayed then t else offerShoe t
  else s

/-- A SHOE acted on (R131, R136, R124). -/
def shoeEffect (a : Address) (program stage : Nat) (s : State) : State :=
  hostTakesShoe a program stage (refreshSpeaking (feedSilence (applyStage program stage s)))

/-- SHOE (R131). -/
def execShoe (a : Address) (program stage : Byte) (s : State) : Host.Outcome State Fault Refusal :=
  .next (takeFrame (.shoe a program stage)
    (fun _ => whenRunning (.shoe a program stage) (shoeEffect a (clampProgram program) (clampStage stage))) s)

/-- A TUTTI with state on acted on (R137, R138). -/
def tuttiOnEffect (level : Nat) (s : State) : State :=
  let t := readRecord (tuttiIndex level) { s with resolver := { s.resolver with tuttiLevel := level } }
  let u := loadTutti level t
  refreshSpeaking { u with resolver := { u.resolver with tutti := true, tuttiLamp := true } }

/-- TUTTI_ON (R137). -/
def execTuttiOn (a : Address) (state l : Byte) (s : State) : Host.Outcome State Fault Refusal :=
  .next (takeFrame (.tuttiOn a state l) (fun _ => whenRunning (.tuttiOn a state l) (tuttiOnEffect (clampLevel l))) s)

/-- TUTTI_OFF (R139): the frame's level is not read. -/
def execTuttiOff (a : Address) (l : Byte) (s : State) : Host.Outcome State Fault Refusal :=
  .next (takeFrame (.tuttiOff a l)
    (fun _ => whenRunning (.tuttiOff a l) fun t => refreshSpeaking (tuttiGoesOff t)) s)

/-- The silence timer expires: the state is SILENT and SHOE_SILENT is set; the crescendo holds (R134). -/
def expireSilence (s : State) : State :=
  setFlag .shoeSilent { s with resolver := { s.resolver with silence := .silent } }

/-- SILENCE_PERIOD (R133): a period with no SHOE taken ends; at count 1 the timer expires (log 30). -/
def execSilencePeriod (s : State) : Host.Outcome State Fault Refusal :=
  match s.resolver.silence with
  | .fed k _ =>
    if s.runs then
      .next (if 2 < k then { s with resolver := { s.resolver with silence := .fed (k - 1) 500 } } else expireSilence s)
    else .next s
  | _ => .next s

/-- SILENCE_EXPIRY (R134): the period that brings the count to 1 ends. -/
def execSilenceExpiry (s : State) : Host.Outcome State Fault Refusal :=
  match s.resolver.silence with
  | .fed k _ => if s.runs ∧ k ≤ 2 then .next (expireSilence s) else .next s
  | _ => .next s

end Sys2Proof.Machine
end

