-- ==== Sys2Proof/Machine/OutputEvents.lean ====
section
/-! DEFINITION. The meanings of the events of the output drivers: shift ends, blink phases and the fault pulse
(R190, R192, R198). -/

namespace Sys2Proof.Machine

/-- SHIFT_END (R190): the shift copy is latched, and a new shift begins if the chain is dirty. -/
def execShiftEnd (s : State) : Host.Outcome State Fault Refusal :=
  match s.outputs.shift with
  | some copy =>
    if s.live then .next (startShift { s with outputs := { s.outputs with latched := copy, shift := none } })
    else .next s
  | none => .next s

/-- A blink after a phase: the next phase, or its end after the last (R93, R192). -/
def Blink.after (b : Blink) : Option Blink :=
  if 1 < b.phases then some { b with phases := b.phases - 1, timer := b.kind.phaseMs } else none

/-- BLINK_PHASE (R192): a lamp's blink goes from one phase to the next; a piston lamp's blink ends after its last
phase, the service lamp's does not end. -/
def execBlinkPhase (lamp : BlinkLamp) (s : State) : Host.Outcome State Fault Refusal :=
  match lamp with
  | .piston i =>
    if s.runs then
      .next { s with outputs := { s.outputs with
        lamps := put s.outputs.lamps i
          { s.outputs.lamps[i] with blink := (s.outputs.lamps[i]).blink.bind Blink.after } } }
    else .next s
  | .service =>
    match s.node, s.outputs.serviceBlink with
    | .handOnly, some (lit, _) => .next { s with outputs := { s.outputs with serviceBlink := some (!lit, 500) } }
    | _, _ => .next s

/-- BLINK_END (R93): the length of a blink has run, and the lamp takes its steady value. -/
def execBlinkEnd (i : Fin 16) (s : State) : Host.Outcome State Fault Refusal :=
  if s.runs then
    .next { s with outputs := { s.outputs with
      lamps := put s.outputs.lamps i { s.outputs.lamps[i] with blink := none } } }
  else .next s

/-- FAULT_PULSE_END (R198): the pulse timer expires, and the fault line goes inactive. -/
def execFaultPulseEnd (s : State) : Host.Outcome State Fault Refusal :=
  .next { s with faults := { s.faults with pulse := none } }

end Sys2Proof.Machine
end

