-- ==== Sys2Proof/Machine/Starting.lean ====
section
/-! DEFINITION. The steps of a start, its holds, the values after start, and the loss of the supply
(R48, R81, R187, R188, R223 to R228). -/

namespace Sys2Proof.Machine

/-- The crescendo and tutti state as STARTING holds it: its values after start (R129, R130, R137, R146; log 36). -/
def Resolver.crescendoStarted (r : Resolver) : Resolver :=
  { r with
    program := 0
    stage := 0
    addition := StopSet.empty
    silence := .waiting
    crescendoLamp := false
    tutti := false
    tuttiLevel := 0
    tuttiAdd := StopSet.empty
    tuttiSilence := StopSet.empty
    tuttiLamp := false }

/-- Step 1 of a start: the cut. The latched outputs stay as they are; every lamp goes OFF, the shoe unit is INACTIVE,
tutti is off and the silence state is WAITING in STARTING (R224, R81, R105, R146, R187, R188, R191, R200). -/
def startCut (cause : StartCause) (s : State) : State :=
  { s with
    node := .starting .lineHeld
    resolver := s.resolver.crescendoStarted
    sequencer := Sequencer.initial
    link := Link.initial
    outputs := { Outputs.initial with latched := s.outputs.latched }
    faults := { s.faults with cause := cause, pulse := none }
    shoe := Shoe.initial }

/-- The fault set after step 6 (R193). -/
def Faults.started (fs : Faults) (configFault : Bool) : Faults :=
  ⟨if configFault then Flag.mask .config else 0#10, 0, fs.cause, false, false, none⟩

/-- Steps 3 to 6 of a start: the straps as they are found, the block, inputs and values (R219, R224; log 8, 9, 24). A
block that has been read here is no longer open to a write cut short (DESIGN CHOICE, log 45). -/
def startLoad (s : State) : State :=
  let straps := s.pins.strapReading
  let fault := configFault straps s.block
  { s with
    node := .starting (.ready fault)
    pins := s.pins.afterReading
    straps := straps
    config := configAtStart straps s.block
    blockWrite := none
    scanner := s.scanner.started
    resolver := Resolver.initial
    faults := s.faults.started fault
    service := Service.initial
    shoe := Shoe.initial }

/-- Step 2 of a start: the waiting entries are discarded, and a write in progress is finished before the start
goes on (R48, R224). -/
def startStore (s : State) : State :=
  if s.store.stage.isSome then
    { s with node := .starting .storeFinishing, store := { s.store with writes := s.store.writes.take 1 } }
  else startLoad { s with store := { s.store with writes := [] } }

/-- A start with a cause: the cut, then the hold at the reset line or the steps that follow (R223, R224). -/
def beginStart (cause : StartCause) (s : State) : State :=
  if s.pins.resetActive then startCut cause s else startStore (startCut cause s)

/-- After a store event in STARTING, a start that was finishing a write goes on when none is in progress (R48). -/
def startGoesOn (s : State) : State :=
  if s.node = .starting .storeFinishing ∧ s.store.stage = none then startLoad s else s

/-- The drawn image loaded from the debounced sense of each stop below S (R1, R225, R226). -/
def loadDrawn (s : State) : State :=
  { s with resolver := { s.resolver with drawn := table fun n => s.serves n && s.scanner.senses[n] } }

/-- The shoe unit at entry to RUNNING: a shoe host's unit becomes ACTIVE and takes its first sample, or it becomes
OFF and CONFIG is set (R105, R108, R225). -/
def enterShoe (x : Nat) (s : State) : State :=
  match s.isHost, s.config.shoe with
  | true, some c =>
    if c.calibrated then firstSample c x { s with shoe := { s.shoe with unit := .active } }
    else setFlag .config { s with shoe := { s.shoe with unit := .off } }
  | _, _ => s

/-- The supply fell far enough to stop the node: nonvolatile memory keeps what R227 says, a write in progress is
cut short, the outputs are undriven and every other state is lost (R228). Lost fields hold the values a start gives, but
the strap values and the configuration, which stay as they were last read until a start reads them anew (DESIGN CHOICE,
log 13). -/
def loseSupply (s : State) : State :=
  let t := tearBlock (tearRecord s)
  { t with
    node := .unpowered
    pins := { s.pins with supplyGood := false }
    store := { t.store with writes := [], stage := none }
    scanner := s.scanner.started
    resolver := Resolver.initial
    sequencer := Sequencer.initial
    link := Link.initial
    outputs := Outputs.initial
    faults := Faults.initial
    service := Service.initial
    shoe := Shoe.initial }

end Sys2Proof.Machine
end

