-- ==== Sys2Proof/Machine/ServiceAccess.lean ====
section
/-! DEFINITION. The meanings of the service frames and of the replies of service access (R203 to R218). -/

namespace Sys2Proof.Machine

/-- A taken service frame: the target node does `act` with it, any other node ignores it (R180). -/
def forTarget (c : Instr) (target : Byte) (act : State → State) (s : State) : Host.Outcome State Fault Refusal :=
  .next (takeFrame c (fun _ t => if t.isTarget target then act t else t) s)

/-- What a node does only when it obeys the frames that need service mode (R204). -/
def whenObeyed (act : State → State) (s : State) : State := if s.obeysService then act s else s

/-- The changed flags of the array cleared, where the option asks for it (R36, R203). -/
def clearOption (option : Byte) (s : State) : State :=
  if option = 0#8 then s else { s with store := s.store.clearChanged }

/-- SERVICE_MODE_ON (R203): in HAND_ONLY the flag stays off, and only the clear option acts (R204). -/
def execServiceModeOn (a : Address) (target on option : Byte) (s : State) : Host.Outcome State Fault Refusal :=
  forTarget (.serviceModeOn a target on option) target
    (fun t => clearOption option (if t.runs then { t with service := { t.service with mode := true } } else t)) s

/-- Service access after SERVICE-MODE off in RUNNING: the mode is off, the read and the partial write have ended and
a held scan is dropped; the pointers keep their indices (R203, R213, R214; log 21). -/
def Service.ended (sv : Service) : Service :=
  ⟨false, ⟨sv.readPointer.index, 0⟩, ⟨sv.writePointer.index, 0⟩, [], none, 0, none⟩

/-- SERVICE_MODE_OFF (R203, R213): it changes nothing where service mode is off and nothing in HAND_ONLY. -/
def execServiceModeOff (a : Address) (target option : Byte) (s : State) : Host.Outcome State Fault Refusal :=
  forTarget (.serviceModeOff a target option) target
    (fun t => if t.runs && t.service.mode then { t with service := t.service.ended } else t) s

/-- STORE_POINT_READ (R206): the outstanding count is kept. -/
def execStorePointRead (a : Address) (target high low : Byte) (s : State) : Host.Outcome State Fault Refusal :=
  forTarget (.storePointRead a target high low) target
    (whenObeyed fun t =>
      { t with service := { t.service with readPointer := ⟨clampIndex high low, 0⟩, readCopy := none } }) s

/-- STORE_POINT_WRITE (R206). -/
def execStorePointWrite (a : Address) (target which high low : Byte) (s : State) :
    Host.Outcome State Fault Refusal :=
  forTarget (.storePointWrite a target which high low) target
    (whenObeyed fun t =>
      { t with service := { t.service with writePointer := ⟨clampIndex high low, 0⟩, received := [] } }) s

/-- A completed record: the write is offered, the write pointer advances whatever the answer, and an admitted write
reloads the set it feeds (R142, R210). -/
def recordComplete (data : List Byte) (s : State) : State :=
  let i := s.service.writePointer.index
  let w := offerWrite i (bytesOfParts data) .service s
  let t := { w.1 with service := { w.1.service with writePointer := ⟨nextIndex i, 0⟩, received := [] } }
  if w.2 then reloadSets i t else t

/-- The data bytes of a STORE-WRITE against the part count of the write pointer (R208, R209). -/
def takePart (data : List Byte) (s : State) : State :=
  let p := s.service.writePointer
  if data.length = partLength p.part then
    if p.part < 2 then
      { s with service := { s.service with
          writePointer := ⟨p.index, p.part + 1⟩, received := s.service.received ++ data } }
    else recordComplete (s.service.received ++ data) s
  else { s with service := { s.service with writePointer := ⟨p.index, 0⟩, received := [] } }

/-- STORE_WRITE (R208). -/
def execStoreWrite (a : Address) (target : Byte) (data : List Byte) (s : State) : Host.Outcome State Fault Refusal :=
  forTarget (.storeWrite a target data) target (whenObeyed (takePart data)) s

/-- STORE_READ (R211): the count replaces the outstanding count, and a held read copy is discarded. -/
def execStoreRead (a : Address) (target count : Byte) (s : State) : Host.Outcome State Fault Refusal :=
  forTarget (.storeRead a target count) target
    (whenObeyed fun t =>
      let sv := t.service
      { t with service := { sv with
          outstanding := clampCount count
          readCopy := none
          readPointer := if sv.readCopy.isSome then ⟨sv.readPointer.index, 0⟩ else sv.readPointer } }) s

/-- CHANGED_SCAN (R214): a held scan is replaced. -/
def execChangedScan (a : Address) (target high low : Byte) (s : State) : Host.Outcome State Fault Refusal :=
  forTarget (.changedScan a target high low) target
    (whenObeyed fun t => { t with service := { t.service with scan := some (clampIndex high low) } }) s

/-- The block with data bytes written from an offset on (R216). -/
def writeBlock (b : Vector Byte 128) (offset : Nat) (data : List Byte) : Vector Byte 128 :=
  table fun k => if offset ≤ k.val ∧ k.val < offset + data.length then data.getD (k.val - offset) 0#8 else b[k]

/-- CONFIG_WRITE (R216): bytes past the end of the block make UNKNOWN_KIND (R179); what the node does stays as
it is until the next start. -/
def execConfigWrite (a : Address) (target offset : Byte) (data : List Byte) (s : State) :
    Host.Outcome State Fault Refusal :=
  forTarget (.configWrite a target offset data) target
    (fun t =>
      if t.rangeFault (.configWrite a target offset data) then setFlag .unknownKind t
      else whenObeyed (fun u =>
        { u with
          block := writeBlock u.block offset.toNat data
          blockWrite := some (offset.toNat, data.length) }) t) s

/-- The flags a mask names (R169, R217). -/
def clearMask (high low : Byte) : BitVec 10 := high.extractLsb' 0 2 ++ low

/-- FAULT_CLEAR (R217, R196): it needs no service mode. -/
def execFaultClear (a : Address) (target high low : Byte) (s : State) : Host.Outcome State Fault Refusal :=
  forTarget (.faultClear a target high low) target (clearRequest (clearMask high low)) s

/-- RESTART (R218, R223): a start with cause LINK; it needs no service mode. -/
def execRestart (a : Address) (target : Byte) (s : State) : Host.Outcome State Fault Refusal :=
  forTarget (.restart a target) target (beginStart .link) s

/-- Whether service access may offer a held reply: a place is free, and no FAULT-NOTE is due to be offered for it
first (R182, R186). -/
def State.replyMayBeOffered (s : State) : Bool :=
  s.live && hasPlace s.link.queue && !(s.faults.notePending && s.faults.retryDue)

/-- The part of the read pointer's record offered and, once admitted, counted; after part 2 the read copy is
discarded and the read pointer advances (R212). -/
def offerPart (bytes : EntryBytes) (s : State) : State :=
  let p := s.service.readPointer
  match offer (.storeData (BitVec.ofNat 8 p.part) (recordPart bytes p.part)) s with
  | (t, true) =>
    if p.part < 2 then { t with service := { t.service with readPointer := ⟨p.index, p.part + 1⟩ } }
    else { t with service := { t.service with
      readPointer := ⟨nextIndex p.index, 0⟩, readCopy := none, outstanding := t.service.outstanding - 1 } }
  | (t, false) => t

/-- Whether a STORE-DATA part may be offered: a reply may, no scan is held, which goes first, and parts remain to be
produced (R212, R214). -/
def State.partMayBeOffered (s : State) : Bool :=
  s.replyMayBeOffered && s.service.scan.isNone && decide (0 < s.service.outstanding)

/-- One part built and offered in the event in which it is offered. The read at part 0 may set DAMAGED; a FAULT-NOTE
that takes the last free place leaves the part waiting (R186, R212; log 20). -/
def offerNextPart (s : State) : State :=
  let p := s.service.readPointer
  match p.part, s.service.readCopy with
  | 0, _ =>
    let bytes := s.store.answer p.index
    let t := readRecord p.index s
    if hasPlace t.link.queue then offerPart bytes { t with service := { t.service with readCopy := some bytes } }
    else t
  | _, some bytes => offerPart bytes s
  | _, none => s

/-- Parts offered in part order, at most one for each of a number of places, while one may be offered (R212). -/
def offerParts : Nat → State → State
  | 0, s => s
  | places + 1, s => if s.partMayBeOffered then offerParts places (offerNextPart s) else s

/-- STORE_DATA (R212): a part is offered to each free place of the queue while parts remain to be produced. -/
def execStoreData (s : State) : Host.Outcome State Fault Refusal :=
  .next (offerParts (queueLimit - s.link.queue.length) s)

/-- SCAN_REPLY (R214): the scan is made when its reply is offered. -/
def execScanReply (s : State) : Host.Outcome State Fault Refusal :=
  match s.service.scan with
  | some start =>
    if s.replyMayBeOffered then
      let t := { s with service := { s.service with scan := none } }
      .next (offer (match s.store.firstChanged start (recordCount - start) with
        | some i => .scanReply 1#8 (highByte i) (lowByte i)
        | none => .scanReply 0#8 0#8 0#8) t).1
    else .next s
  | none => .next s

end Sys2Proof.Machine
end

