-- ==== Sys2Proof/Machine/ShoeEvents.lean ====
section
/-! DEFINITION. The meanings of the shoe unit's samples and of its refresh timer (R109, R120, R125). -/

namespace Sys2Proof.Machine

/-- SHOE_SAMPLE (R109). -/
def execShoeSample (x : Nat) (s : State) : Host.Outcome State Fault Refusal :=
  match s.activeShoe with
  | some c => if x ≤ 1023 then .next (takeSample c x s) else .next s
  | none => .next s

/-- FOLLOWER_EXPIRY (R120): the sample at which the follower count expires (log 30). -/
def execFollowerExpiry (x : Nat) (s : State) : Host.Outcome State Fault Refusal :=
  match s.activeShoe with
  | some c => if x ≤ 1023 ∧ s.shoe.followerExpires c x = true then .next (takeSample c x s) else .next s
  | none => .next s

/-- REFRESH_EXPIRY (R125): a SHOE is offered and the timer is loaded again. -/
def execRefreshExpiry (s : State) : Host.Outcome State Fault Refusal :=
  if s.activeShoe.isSome && s.shoe.refresh.isSome then
    .next (offerShoe { s with shoe := { s.shoe with refresh := some 500 } })
  else .next s

end Sys2Proof.Machine
end

