-- ==== Sys2Proof/Machine/Start.lean ====
section
/-! DEFINITION. The meanings of the start and supply commands. -/

namespace Sys2Proof.Machine

/-- POWER_ON (R223): a start with cause POWER and the latched outputs off. A node that still had its supply loses
it first (log 14). -/
def execPowerOn (straps : Straps) (s : State) : Host.Outcome State Fault Refusal :=
  let t := if s.powered then loseSupply s else s
  .next (beginStart .power
    { t with
      pins := { s.pins with straps := straps, supplyGood := true }
      outputs := Outputs.initial })

/-- RESET_LINE (R223): the line is made active, and a powered node cuts and holds before step 2 (R224). -/
def execResetLine (straps : Straps) (s : State) : Host.Outcome State Fault Refusal :=
  if s.pins.resetActive then .next s
  else
    let t := { s with pins := { s.pins with straps := straps, resetActive := true } }
    .next (if s.powered then beginStart .line t else t)

/-- RESET_RELEASE (R224): a start held before its store step goes on. -/
def execResetRelease (s : State) : Host.Outcome State Fault Refusal :=
  let t := { s with pins := { s.pins with resetActive := false } }
  .next (if s.pins.resetActive ∧ s.node = .starting .lineHeld then startStore t else t)

/-- ENTER_RUNNING (R225), at step 7 of a start that found no configuration fault, with the supply good. -/
def execEnterRunning (x : Nat) (s : State) : Host.Outcome State Fault Refusal :=
  if s.node = .starting (.ready false) ∧ s.pins.supplyGood = true ∧ x ≤ 1023 then
    .next (noteCall (enterShoe x (startShift (refreshSpeaking (loadDrawn { s with node := .running })))))
  else .next s

/-- ENTER_HAND_ONLY (R226), at step 7 of a start that found a configuration fault, with the supply good. -/
def execEnterHandOnly (s : State) : Host.Outcome State Fault Refusal :=
  if s.node = .starting (.ready true) ∧ s.pins.supplyGood = true then
    .next (noteCall (startShift (refreshSpeaking (loadDrawn
      { s with
        node := .handOnly
        sequencer := s.sequencer.cut
        outputs := { s.outputs with serviceBlink := some (true, 500) } }))))
  else .next s

/-- START_WAIT_END (R81): the wait after the cut that began the start is over. -/
def execStartWaitEnd (s : State) : Host.Outcome State Fault Refusal :=
  if s.sequencer.startWait.isSome && s.powered then
    .next (startRule { s with sequencer := { s.sequencer with startWait := none } })
  else .next s

/-- The coil cut of a supply fall in RUNNING: the hold begins, and the resolver takes the stops whose move was
removed (R26, R79, R80). -/
def cutAtFall (s : State) : State :=
  let removed := s.sequencer.moving
  let t := withSequencer { s.sequencer.cut with cutHold := some 20 } s
  let drawn : StopSet := table fun n => if removed[n] then s.scanner.senses[n] else s.resolver.drawn[n]
  if drawn = s.resolver.drawn then t
  else checkDivisional (checkGeneral (refreshSpeaking { t with resolver := { t.resolver with drawn := drawn } }))

/-- SUPPLY_FALL (R228): the coils of a RUNNING node are cut, and no new store write starts while the supply is
low. -/
def execSupplyFall (s : State) : Host.Outcome State Fault Refusal :=
  if s.powered && s.pins.supplyGood then
    let t := { s with pins := { s.pins with supplyGood := false } }
    .next (if s.runs then cutAtFall t else t)
  else .next s

/-- A cut hold whose 20 ms have passed ends (R80). -/
def endPassedHold (s : State) : State :=
  if s.sequencer.cutHold = some 0 then { s with sequencer := { s.sequencer with cutHold := none } } else s

/-- SUPPLY_RECOVERY (R228): the head entry of the store starts, a hold whose 20 ms have passed ends, and the start
rule applies. -/
def execSupplyRecovery (s : State) : Host.Outcome State Fault Refusal :=
  if s.powered && !s.pins.supplyGood then
    .next (startRule (endPassedHold (startWrite { s with pins := { s.pins with supplyGood := true } })))
  else .next s

/-- CUT_HOLD_END (R80): 20 ms have passed since the cut, and the supply has recovered. -/
def execCutHoldEnd (s : State) : Host.Outcome State Fault Refusal :=
  if s.sequencer.cutHold.isSome && s.powered && s.pins.supplyGood then
    .next (startRule { s with sequencer := { s.sequencer with cutHold := none } })
  else .next s

/-- SUPPLY_LOST (R228): the supply falls far enough to stop the node. -/
def execSupplyLost (s : State) : Host.Outcome State Fault Refusal :=
  .next (if s.powered then loseSupply s else s)

end Sys2Proof.Machine
end

