-- ==== Sys2Proof/Machine/StoreEvents.lean ====
section
/-! DEFINITION. The meanings of the ends of the store's array writes (R46, R47). -/

namespace Sys2Proof.Machine

/-- WRITE_VERIFY (R46, R47): the head entry's array write ends and is verified; a start that waited for it goes on
(R48). -/
def execWriteVerify (readBack : Option ArrayBytes) (s : State) : Host.Outcome State Fault Refusal :=
  match s.store.stage, s.store.writes with
  | some .storing, e :: _ => if s.powered then .next (startGoesOn (verifyHead e readBack s)) else .next s
  | _, _ => .next s

/-- FORCING_WRITE_END (R47): the forcing write of a failed record ends, and DAMAGED is set. -/
def execForcingWriteEnd (held : Option ArrayBytes) (s : State) : Host.Outcome State Fault Refusal :=
  match s.store.stage, s.store.writes with
  | some .forcing, e :: _ => if s.powered then .next (startGoesOn (forcingEnds e held s)) else .next s
  | _, _ => .next s

end Sys2Proof.Machine
end

