-- ==== Sys2Proof/Machine/Dispatch.lean ====
section
/-! DEFINITION. What each command does to everything but the queue: one arm per constructor, one call of its meaning. -/

namespace Sys2Proof.Machine

/-- A command's effect on everything but the queue of waiting commands. -/
def exec (i : Instr) (s : State) : Host.Outcome State Fault Refusal :=
  match i with
  | .powerOn a => Sys2Proof.Machine.execPowerOn a s
  | .resetLine a => Sys2Proof.Machine.execResetLine a s
  | .resetRelease => Sys2Proof.Machine.execResetRelease s
  | .enterRunning a => Sys2Proof.Machine.execEnterRunning a s
  | .enterHandOnly => Sys2Proof.Machine.execEnterHandOnly s
  | .startWaitEnd => Sys2Proof.Machine.execStartWaitEnd s
  | .supplyFall => Sys2Proof.Machine.execSupplyFall s
  | .supplyRecovery => Sys2Proof.Machine.execSupplyRecovery s
  | .cutHoldEnd => Sys2Proof.Machine.execCutHoldEnd s
  | .contactChange a b => Sys2Proof.Machine.execContactChange a b s
  | .stopSenseChange a => Sys2Proof.Machine.execStopSenseChange a s
  | .recallPress a => Sys2Proof.Machine.execRecallPress a s
  | .capturePress a => Sys2Proof.Machine.execCapturePress a s
  | .pistonRelease a => Sys2Proof.Machine.execPistonRelease a s
  | .setPress a => Sys2Proof.Machine.execSetPress a s
  | .generalCancelPress a => Sys2Proof.Machine.execGeneralCancelPress a s
  | .divisionalCancelPress a => Sys2Proof.Machine.execDivisionalCancelPress a s
  | .stepNextPress a => Sys2Proof.Machine.execStepNextPress a s
  | .stepPrevPress a => Sys2Proof.Machine.execStepPrevPress a s
  | .levelUpPress a => Sys2Proof.Machine.execLevelUpPress a s
  | .levelDownPress a => Sys2Proof.Machine.execLevelDownPress a s
  | .tuttiPress a => Sys2Proof.Machine.execTuttiPress a s
  | .programPress a => Sys2Proof.Machine.execProgramPress a s
  | .linkIdle => Sys2Proof.Machine.execLinkIdle s
  | .arbitrationLost a => Sys2Proof.Machine.execArbitrationLost a s
  | .readbackMismatch => Sys2Proof.Machine.execReadbackMismatch s
  | .formatError a => Sys2Proof.Machine.execFormatError a s
  | .badCheck a => Sys2Proof.Machine.execBadCheck a s
  | .unknownKind a => Sys2Proof.Machine.execUnknownKind a s
  | .generalRecall a b c d e f => Sys2Proof.Machine.execGeneralRecall a b c d e f s
  | .divisionalRecall a b c d e f => Sys2Proof.Machine.execDivisionalRecall a b c d e f s
  | .generalCancel a b => Sys2Proof.Machine.execGeneralCancel a b s
  | .divisionalCancel a b => Sys2Proof.Machine.execDivisionalCancel a b s
  | .generalCapture a b c d e => Sys2Proof.Machine.execGeneralCapture a b c d e s
  | .divisionalCapture a b c d e => Sys2Proof.Machine.execDivisionalCapture a b c d e s
  | .deviate a b c d e => Sys2Proof.Machine.execDeviate a b c d e s
  | .level a b => Sys2Proof.Machine.execLevel a b s
  | .lock a b c => Sys2Proof.Machine.execLock a b c s
  | .shoe a b c => Sys2Proof.Machine.execShoe a b c s
  | .tuttiOn a b c => Sys2Proof.Machine.execTuttiOn a b c s
  | .tuttiOff a b => Sys2Proof.Machine.execTuttiOff a b s
  | .serviceModeOn a b c d => Sys2Proof.Machine.execServiceModeOn a b c d s
  | .serviceModeOff a b c => Sys2Proof.Machine.execServiceModeOff a b c s
  | .storePointRead a b c d => Sys2Proof.Machine.execStorePointRead a b c d s
  | .storePointWrite a b c d e => Sys2Proof.Machine.execStorePointWrite a b c d e s
  | .storeWrite a b c => Sys2Proof.Machine.execStoreWrite a b c s
  | .storeRead a b c => Sys2Proof.Machine.execStoreRead a b c s
  | .changedScan a b c d => Sys2Proof.Machine.execChangedScan a b c d s
  | .configWrite a b c d => Sys2Proof.Machine.execConfigWrite a b c d s
  | .faultClear a b c d => Sys2Proof.Machine.execFaultClear a b c d s
  | .restart a b => Sys2Proof.Machine.execRestart a b s
  | .faultNote a b c d => Sys2Proof.Machine.execFaultNote a b c d s
  | .storeDataTaken a b c => Sys2Proof.Machine.execStoreDataTaken a b c s
  | .scanReplyTaken a b c d => Sys2Proof.Machine.execScanReplyTaken a b c d s
  | .storeData => Sys2Proof.Machine.execStoreData s
  | .scanReply => Sys2Proof.Machine.execScanReply s
  | .faultNoteRetry => Sys2Proof.Machine.execFaultNoteRetry s
  | .writeVerify a => Sys2Proof.Machine.execWriteVerify a s
  | .forcingWriteEnd a => Sys2Proof.Machine.execForcingWriteEnd a s
  | .pulseExpiry a => Sys2Proof.Machine.execPulseExpiry a s
  | .settleCheck a => Sys2Proof.Machine.execSettleCheck a s
  | .restExpiry a => Sys2Proof.Machine.execRestExpiry a s
  | .shoeSample a => Sys2Proof.Machine.execShoeSample a s
  | .followerExpiry a => Sys2Proof.Machine.execFollowerExpiry a s
  | .refreshExpiry => Sys2Proof.Machine.execRefreshExpiry s
  | .silencePeriod => Sys2Proof.Machine.execSilencePeriod s
  | .silenceExpiry => Sys2Proof.Machine.execSilenceExpiry s
  | .shiftEnd => Sys2Proof.Machine.execShiftEnd s
  | .blinkPhase a => Sys2Proof.Machine.execBlinkPhase a s
  | .blinkEnd a => Sys2Proof.Machine.execBlinkEnd a s
  | .faultPulseEnd => Sys2Proof.Machine.execFaultPulseEnd s
  | .supplyLost => Sys2Proof.Machine.execSupplyLost s
  | .startBitRead => Sys2Proof.Machine.execStartBitRead s
  | .pressIgnored a => Sys2Proof.Machine.execPressIgnored a s

end Sys2Proof.Machine
end

