-- ==== Sys2Proof/Machine/Step.lean ====
section
/-! DEFINITION. One step: the command at the front of the queue, or the clock. -/

namespace Sys2Proof.Machine

/-- One step. The command at the front of the queue is run with the queue's rest. On an empty queue the block's
clock runs: the command of a timer that has run out, or else one millisecond passes (DESIGN CHOICE, log 5). -/
def step (s : State) : Host.Outcome State Fault Refusal :=
  match s.pending with
  | c :: rest => exec c { s with pending := rest }
  | [] =>
    match s.dueCommand with
    | some c => exec c s
    | none => .next (advance s)

/-- The state with the command a word spells put at the front of its queue. No row of spec/opcode_table.json gives
bits, so no word spells one. -/
def State.withFetchWord (s : State) (nbits w : Nat) : State :=
  match Sys2Proof.decodeTableWord nbits w with
  | some c => { s with pending := c :: s.pending }
  | none => s

end Sys2Proof.Machine
end

