-- ==== Sys2Proof/Safety.lean ====
section
/-! DEFINITION. The laws of the node that every step keeps, and the words in which the statements speak of a step. -/

namespace Sys2Proof.Machine

/-! ### Words of the statements -/

/-- A node that reads a frame of another station to its end: RUNNING or HAND_ONLY, sending nothing, not SEEKING
(R167, R174, R175). -/
abbrev State.readsFrame (s : State) : Prop := s.live = true ∧ s.link.sending = none ∧ s.link.line ≠ .seeking

/-- A node in RUNNING that reads a frame of another station to its end. -/
abbrev State.runsAndReads (s : State) : Prop := s.node = .running ∧ s.link.sending = none ∧ s.link.line ≠ .seeking

/-- The state as a taken frame of another station leaves it before the node acts on it: the line is in GAP, and an
open block write is sealed (R167, R216). -/
abbrev State.frameTaken (s : State) : State := { s with link := { s.link with line := .gap }, blockWrite := none }

/-- A stop below S whose drawn image does not agree with a DRAW or RETIRE entry of a reference (R28). -/
abbrev State.contradicts (s : State) (r : Reference) (n : StopNo) : Prop :=
  n.val < s.config.stops ∧
    ((r.entries[n] = .draw ∧ s.resolver.drawn[n] = false) ∨ (r.entries[n] = .retire ∧ s.resolver.drawn[n] = true))

/-- The output drivers after an event that may change the speaking set (R84, R189): a set that differs from the one
before marks the chain dirty, and begins a shift at once where none runs; the latched outputs and the blinks stay. -/
abbrev State.shiftFollows (s t : State) : Prop :=
  t.outputs = { s.outputs with
    lamps := t.outputs.lamps
    dirty := t.outputs.dirty
    shift := t.outputs.shift } ∧
    (t.resolver.speaking = s.resolver.speaking →
      t.outputs.dirty = s.outputs.dirty ∧ t.outputs.shift = s.outputs.shift) ∧
    (t.resolver.speaking ≠ s.resolver.speaking → s.outputs.shift = none →
      t.outputs.dirty = false ∧ t.outputs.shift = some t.resolver.speaking) ∧
    (t.resolver.speaking ≠ s.resolver.speaking → s.outputs.shift ≠ none →
      t.outputs.dirty = true ∧ t.outputs.shift = s.outputs.shift)

/-- Every piston lamp has the steady value its record gives now; a blink that runs goes on (R84, R85). -/
abbrev State.lampsFollow (s t : State) : Prop :=
  ∀ i : Fin 16, t.outputs.lamps[i] = ⟨t.steadyValue s.config.pistons[i], (s.outputs.lamps[i]).blink⟩

/-- The stuck count and the STUCK flag after the sequencer's report (R78, R194, R195): a count that stays changes
nothing; a count that rises is a new flag, or a FAULT-NOTE call where STUCK is set already; a count that falls makes no
call, and clears the flag where it falls to 0. -/
abbrev State.stuckFollows (s t : State) : Prop :=
  t.faults.stuckCount = t.sequencer.stuckCount ∧
    (t.sequencer.stuckCount = s.faults.stuckCount → t.faults = s.faults ∧ t.link = s.link) ∧
    (s.faults.stuckCount < t.sequencer.stuckCount →
      t.faults.has .stuck = true ∧
        (let counted := { s with faults := { s.faults with stuckCount := t.sequencer.stuckCount } }
         let u := if s.faults.has .stuck then noteCall counted else setFlag .stuck counted
         t.faults = u.faults ∧ t.link = u.link)) ∧
    (t.sequencer.stuckCount < s.faults.stuckCount →
      t.link = s.link ∧
        t.faults = { (if t.sequencer.stuckCount = 0 then s.faults.withoutFlag .stuck else s.faults) with
          stuckCount := t.sequencer.stuckCount })

/-! ### Laws -/

/-- The record array has its canonical form (R31; log 28). -/
abbrev State.memoryLaw (s : State) : Prop := s.store.array.wf = true

/-- Entries in the queue's order: by class, then by age (R181). -/
def inOrder : List QueueEntry → Bool
  | [] => true
  | e :: q => q.all (fun f => e.before f) && inOrder q

/-- The waiting entries of the queue: all but a head under way (R181). -/
def waitingEntries : List QueueEntry → List QueueEntry
  | [] => []
  | e :: q => if e.underWay then q else e :: q

/-- The transmit queue holds at most 8 frames, at most one a SHOE and at most one a FAULT-NOTE; only the head can be
under way, the others stand in order, no two have one age, and every age is older than the next admission (R181). -/
abbrev State.queueLaw (s : State) : Prop :=
  s.link.queue.length ≤ queueLimit ∧
    (s.link.queue.countP fun e => e.body.isShoe) ≤ 1 ∧
    (s.link.queue.countP fun e => e.body.isNote) ≤ 1 ∧
    (∀ e ∈ waitingEntries s.link.queue, e.underWay = false) ∧
    inOrder (waitingEntries s.link.queue) = true ∧
    (s.link.queue.map QueueEntry.age).Nodup ∧
    ∀ e ∈ s.link.queue, e.age < s.link.admitted

/-- The division field of a SHOE in the queue is the node's own (R123), and the queue is empty in STARTING and in a node
without its supply (R181). -/
abbrev State.shoeDivisionLaw (s : State) : Prop :=
  (∀ e ∈ s.link.queue, e.body.shoeDivisionIs s.straps.division = true) ∧ (s.live = false → s.link.queue = [])

/-- Every write in the list names a record; the list holds at most 8 writes, at most one waiting for an index, and a
write in progress has its head entry, whose record it has marked written (R35, R41, R45). -/
abbrev State.writeListLaw (s : State) : Prop :=
  s.store.writes.length ≤ writeLimit ∧
    (s.store.waiting.map WriteEntry.index).Nodup ∧
    (s.store.stage ≠ none → s.store.writes ≠ [] ∧
      ∀ e ∈ s.store.writes.head?, (s.store.array.read e.index).written = true) ∧
    ∀ e ∈ s.store.writes, e.index ≤ lastIndex

/-- What is left of a stop's pulse; 0 for a stop that is not PULSING (R63). -/
def Motion.pulseLeft : Motion → Nat
  | .pulsing _ _ left => left
  | _ => 0

/-- A resting stop awaits its present direction, or none where that is the direction that was cut (R56). -/
def Motion.awaitsItsDirection : Motion → Bool
  | .resting cut d awaiting _ => awaiting == if d = cut then none else some d
  | _ => true

/-- The coils: the energized count is within the budget, which is at most 16; the move list holds each stop with a
move once; a stop at or above S has no move; a pulse lasts no longer than the pulse length; a resting stop awaits its
direction; outside RUNNING no stop has a move (R56, R58, R60, R62, R63, R81). -/
abbrev State.coilLaw (s : State) : Prop :=
  s.sequencer.energized ≤ s.config.budget ∧
    s.config.budget ≤ 16 ∧
    s.sequencer.moves.Nodup ∧
    (∀ n : StopNo, n ∈ s.sequencer.moves ↔ (s.sequencer.motions[n]).motion ≠ .atRest) ∧
    (∀ n ∈ s.sequencer.moves, n.val < s.config.stops) ∧
    (∀ n : StopNo, (s.sequencer.motions[n]).motion.pulseLeft ≤ s.config.pulseMs) ∧
    (∀ n : StopNo, (s.sequencer.motions[n]).motion.awaitsItsDirection = true) ∧
    (s.node ≠ .running → s.sequencer.moves = [])

/-- The drawn image R1 asks for at one stop of a RUNNING node: the direction of its move, or at rest its debounced
sense, or STUCK at rest the target it failed to reach; off at or above S. -/
def State.imageOf (s : State) (n : StopNo) : Bool :=
  decide (n.val < s.config.stops) &&
    match (s.sequencer.motions[n]).motion.direction with
    | some d => d
    | none => (s.scanner.stops[n]).value != (s.sequencer.motions[n]).stuck

/-- The drawn image against the knobs and the moves (R1). In STARTING no marker is set. -/
abbrev State.drawnLaw (s : State) : Prop :=
  match s.node with
  | .running => ∀ n : StopNo, s.resolver.drawn[n] = s.imageOf n
  | .handOnly =>
    ∀ n : StopNo, s.resolver.drawn[n] = (decide (n.val < s.config.stops) && (s.scanner.stops[n]).value)
  | .starting _ => ∀ n : StopNo, (s.sequencer.motions[n]).stuck = false
  | .unpowered => True

/-- The speaking set is the one R6 gives, whenever the node plays; the tutti and crescendo sets are empty while
tutti is off and while the stage is 0, and no stop is both added and silenced (R5, R6, R129, R137). -/
abbrev State.speakingLaw (s : State) : Prop :=
  (s.live = true → s.resolver.speaking = s.resolver.speaks s.config.stops) ∧
    (s.resolver.tutti = false → s.resolver.tuttiAdd = StopSet.empty ∧ s.resolver.tuttiSilence = StopSet.empty) ∧
    (s.resolver.stage = 0 → s.resolver.addition = StopSet.empty) ∧
    ∀ n : StopNo, (s.resolver.tuttiAdd[n] && s.resolver.tuttiSilence[n]) = false

/-- Every level held is within 0 to 127, the last general position names G1 to G48, the program is within 0 to 3, the
stage within 0 to 31 and the sequence length within 1 to 48 (R4, R98, R129). -/
abbrev State.levelLaw (s : State) : Prop :=
  s.resolver.level ≤ 127 ∧ s.resolver.tuttiLevel ≤ 127 ∧
    (∀ p ∈ s.resolver.lastGeneral, p.1 ≤ 127 ∧ 1 ≤ p.2 ∧ p.2 ≤ 48) ∧
    s.resolver.program ≤ 3 ∧ s.resolver.stage ≤ 31 ∧ 1 ≤ s.config.sequence ∧ s.config.sequence ≤ 48

/-- The steady value of every piston lamp is the one R85 gives while the node runs; outside RUNNING every piston lamp
is OFF, and a start that has its values holds no reference (R84, R85, R96). -/
abbrev State.lampLaw (s : State) : Prop :=
  match s.node with
  | .running => ∀ i : Fin 16, (s.outputs.lamps[i]).steady = s.steadyValue s.config.pistons[i]
  | .starting (.ready _) =>
    s.outputs.lamps = Vector.replicate 16 Lamp.dark ∧ s.resolver.general = none ∧ s.resolver.divisional = none ∧
      s.resolver.lampRefs = Vector.replicate 16 none
  | _ => s.outputs.lamps = Vector.replicate 16 Lamp.dark

/-- The following flags against their causes (R78, R194): while the node plays, and in a start. -/
abbrev State.faultLaw (s : State) : Prop :=
  match s.node with
  | .running =>
    s.faults.stuckCount = s.sequencer.stuckCount ∧
      s.faults.has .stuck = decide (0 < s.faults.stuckCount) ∧
      s.faults.has .shoeSilent = (s.resolver.silence == .silent) ∧
      s.faults.has .config = (s.shoe.unit == .off)
  | .handOnly =>
    s.faults.stuckCount = 0 ∧ s.sequencer.stuckCount = 0 ∧ s.faults.has .stuck = false ∧
      s.resolver.silence = .waiting ∧ s.faults.has .shoeSilent = false ∧ s.faults.has .config = true
  | .starting (.ready fault) =>
    s.faults.flags = (if fault then Flag.mask .config else 0#10) ∧ s.faults.stuckCount = 0 ∧
      s.sequencer.stuckCount = 0 ∧ s.resolver.silence = .waiting ∧ s.shoe.unit = .inactive
  | .starting _ => s.sequencer.stuckCount = 0 ∧ s.resolver.silence = .waiting
  | .unpowered => True

/-- The ranges of the shoe unit (R106): filter value, filtered reading, position, stages, program, follower count
and refresh timer. -/
abbrev State.shoeLaw (s : State) : Prop :=
  (∀ F ∈ s.shoe.filter, F ≤ 16368) ∧
    (∀ f ∈ s.shoe.reading, f ≤ 1023) ∧
    (∀ p ∈ s.shoe.position, p ≤ 1023) ∧
    s.shoe.program ≤ 3 ∧
    (∀ k ∈ s.shoe.refresh, k ≤ 500) ∧
    (∀ c ∈ s.config.shoe, s.shoe.target ≤ c.stages ∧ s.shoe.displayed ≤ c.stages ∧
      ∀ k ∈ s.shoe.follower, 1 ≤ k ∧ k ≤ c.follower) ∧
    (s.shoe.firstDone = true → s.shoe.filter ≠ none)

/-- The ranges of service access (R205, R212): indices, part counts, the partial record, the read copy, the
outstanding count and a held scan. -/
abbrev State.serviceLaw (s : State) : Prop :=
  s.service.readPointer.index ≤ lastIndex ∧ s.service.readPointer.part ≤ 2 ∧
    s.service.writePointer.index ≤ lastIndex ∧ s.service.writePointer.part ≤ 2 ∧
    s.service.received.length = 6 * s.service.writePointer.part ∧
    (s.service.readCopy = none ↔ s.service.readPointer.part = 0) ∧
    s.service.outstanding ≤ 16 ∧
    ∀ i ∈ s.service.scan, i ≤ lastIndex

/-- A debounce timer runs exactly while the raw contact differs from the debounced value (R147). -/
abbrev Debounce.lawful (d : Debounce) : Prop := d.timer.isSome = (d.raw != d.value)

/-- Every input of the scanner keeps R147. -/
abbrev State.scannerLaw (s : State) : Prop :=
  (∀ n : StopNo, (s.scanner.stops[n]).lawful) ∧ (∀ i : Fin 16, (s.scanner.pistons[i]).lawful) ∧
    ∀ j : Fin 8, (s.scanner.aux[j]).lawful

end Sys2Proof.Machine
end

