-- ==== Sys2Proof/Certificates/Slice0/Obligations.lean ====
section
/-! DEFINITION. The statements for the provers. Each docstring names the rules the statement rests on. -/

open Sys2Proof Sys2Proof.Machine

/-! ### The step, the clock and the commands as a whole -/

/-- A step with a command at the front of the queue is exec of that command with the queue's rest. -/
def Obligations.StepRunsTheFrontCommand : Prop :=
  ∀ (c : Instr) (rest : List Instr) (s : State), s.pending = c :: rest → step s = exec c { s with pending := rest }

/-- The clock of an empty queue (the model's choice, log 5): the command of a timer that has run out, or else one
millisecond at every timer, and nothing else changes. -/
def Obligations.ClockRunsOnAnEmptyQueue : Prop :=
  ∀ s : State, s.pending = [] →
    (∀ c, s.dueCommand = some c → step s = exec c s) ∧
    (s.dueCommand = none → ∃ t, step s = .next t ∧
      t = { s with scanner := t.scanner,
                   resolver := { s.resolver with silence := match s.resolver.silence with
                     | .fed count left => .fed count (left - 1)
                     | other => other },
                   sequencer := { s.sequencer with motions := t.sequencer.motions, cutHold := t.sequencer.cutHold,
                                                   startWait := t.sequencer.startWait },
                   outputs := { s.outputs with
                     lamps := t.outputs.lamps
                     serviceBlink := s.outputs.serviceBlink.map fun b => (b.1, b.2 - 1) },
                   faults := { s.faults with pulse := s.faults.pulse.map (· - 1) },
                   shoe := { s.shoe with refresh := s.shoe.refresh.map (· - 1) } } ∧
      (∀ c : Contact, t.scanner.input c =
        { s.scanner.input c with timer := (s.scanner.input c).timer.map (· - 1) }) ∧
      (∀ i : Fin 16, t.outputs.lamps[i] =
        ⟨(s.outputs.lamps[i]).steady, (s.outputs.lamps[i]).blink.map fun b => { b with timer := b.timer - 1 }⟩) ∧
      (∀ n : StopNo, (t.sequencer.motions[n]).stuck = (s.sequencer.motions[n]).stuck ∧
        (t.sequencer.motions[n]).motion =
          match (s.sequencer.motions[n]).motion with
          | .pulsing d a left => .pulsing d a (left - 1)
          | .settling d a left => .settling d a (left - 1)
          | .resting cut d w left => .resting cut d w (left - 1)
          | m => m) ∧
      t.sequencer.cutHold = s.sequencer.cutHold.map (· - 1) ∧
      t.sequencer.startWait = s.sequencer.startWait.map (· - 1))

/-- Every command answers a next state in every state, and leaves the queue of waiting commands alone: the rules
name no event that stops the node for good (log 4). -/
def Obligations.EveryCommandAnswersANextState : Prop :=
  ∀ (c : Instr) (s : State), ∃ t, exec c s = .next t ∧ t.pending = s.pending

/-! ### Frames on the link -/

/-- The command of the frame that a well-formed command stands for is that command: no field of a frame is lost
(R168, R169). -/
def Obligations.CommandOfItsOwnFrame : Prop :=
  ∀ (c : Instr) (f : RawFrame), c.wellFormed = true → frameOf c = some f → (∀ g, c ≠ .unknownKind g) → commandOf f = c

/-- A receiver assembles the frame a sender sends, bit for bit, with stuffing, check and end field (R164 to R166,
R175). -/
def Obligations.SentFrameIsAssembled : Prop :=
  ∀ f : RawFrame, f.payload.length ≤ 8 → assemble (frameBits f) = .taken f

/-- From the start bit to the last bit before the end mark, no more than 8 bits in a row have one value (R165); and
a frame of n payload bytes has 43 + 8n bits before stuffing (R164). -/
def Obligations.StuffingBreaksEveryRun : Prop :=
  ∀ f : RawFrame,
    (∀ b : Bool, ¬ (List.replicate 9 b <:+: stuffFrom BitRun.start (bareFrame f))) ∧
    (bareFrame f).length + endField.length = 43 + 8 * f.payload.length

/-! ### Laws that every step keeps -/

/-- The record array keeps its canonical form, and the write list holds at most 8 writes, at most one waiting for an
index, each naming a record, and the record of a write in progress is marked written (R35, R41, R42, R45; log 28). -/
def Obligations.EveryStepKeepsTheStoreLaws : Prop :=
  ∀ s t : State, s.memoryLaw → s.writeListLaw → s.serviceLaw → step s = .next t → t.memoryLaw ∧ t.writeListLaw

/-- The transmit queue holds at most 8 frames, no two of one age, at most one a SHOE and one a FAULT-NOTE, in order,
with only the head under way; the division field of a SHOE in it is the node's own, and it is empty in STARTING and
without supply (R123, R181, R183, R184, R185; the model's choices: log 26, 43). -/
def Obligations.EveryStepKeepsTheQueueLaw : Prop :=
  ∀ s t : State, step s = .next t →
    (s.queueLaw → t.queueLaw) ∧ (s.shoeDivisionLaw → t.shoeDivisionLaw)

/-- Coils stay within the budget, pulses within the pulse length, a resting stop awaits its direction unless that was
cut, and no stop has a move outside RUNNING (R56, R58, R60, R62, R63). -/
def Obligations.EveryStepKeepsTheCoilLaw : Prop :=
  ∀ s t : State, s.coilLaw → step s = .next t → t.coilLaw

/-- The drawn image stays in the relation of R1 to the knobs and to the moves. -/
def Obligations.EveryStepKeepsTheDrawnImage : Prop :=
  ∀ s t : State, s.coilLaw → s.drawnLaw → step s = .next t → t.drawnLaw

/-- The speaking set stays the one R6 gives from the drawn image, the crescendo and the tutti. -/
def Obligations.EveryStepKeepsTheSpeakingSet : Prop :=
  ∀ s t : State, s.speakingLaw → step s = .next t → t.speakingLaw

/-- The steady value of every piston lamp stays the one R85 gives. -/
def Obligations.EveryStepKeepsTheLamps : Prop :=
  ∀ s t : State, s.lampLaw → step s = .next t → t.lampLaw

/-- STUCK, SHOE_SILENT and CONFIG stay set exactly while their causes last, and in STARTING no stop is stuck and the
silence state is WAITING (R146, R194, R195, R196; the model's choice: log 25). -/
def Obligations.EveryStepKeepsTheFollowingFlags : Prop :=
  ∀ s t : State, s.queueLaw → s.faultLaw → step s = .next t → t.faultLaw

/-- Levels, program and stage, the ranges of service access and of the shoe unit, and the debounce timers stay lawful
(R4, R106, R112, R115, R121, R129, R147, R205). -/
def Obligations.EveryStepKeepsTheRanges : Prop :=
  ∀ s t : State, s.levelLaw ∧ s.serviceLaw ∧ s.scannerLaw ∧ s.shoeLaw → step s = .next t →
    t.levelLaw ∧ t.serviceLaw ∧ t.scannerLaw ∧ t.shoeLaw

/-- The state right after reset keeps every law, with the straps, contacts and start phase the model gives it (log 1, 2,
3). -/
def Obligations.ResetKeepsEveryLaw : Prop :=
  State.reset.memoryLaw ∧ State.reset.queueLaw ∧ State.reset.shoeDivisionLaw ∧ State.reset.writeListLaw ∧ State.reset.coilLaw ∧
    State.reset.drawnLaw ∧ State.reset.speakingLaw ∧ State.reset.lampLaw ∧ State.reset.faultLaw ∧
    State.reset.shoeLaw ∧ State.reset.levelLaw ∧ State.reset.serviceLaw ∧ State.reset.scannerLaw

/-! ### Starts and the supply -/

/-- POWER_ON of a node without its supply, with the reset line inactive, takes the values of a power-on start and
keeps the record array, the lock table and the block, the straps read as the reading finds them; with the reset line
active it holds before step 2. Every start checks the block and reads it with its clamps, as the fields say: a block with
a configuration fault is not read (R57, R83, R107, R151, R219 to R224, R227; the model's choices: log 8, 9, 13, 24,
36). -/
def Obligations.PowerOnTakesTheValuesAfterStart : Prop :=
  (∀ (z : Straps) (b : ConfigBlock),
    (configFault z b = true ↔
      b.toList.sum ≠ 0#8 ∨ (b[0]).toNat = 0 ∨ 64 < (b[0]).toNat ∨ z.address = 0#6 ∨
      ∃ i : Fin 16,
        (b[16 + 2 * i.val]'(by omega)).extractLsb' 6 2 = 3#2 ∨
        ((b[16 + 2 * i.val]'(by omega)).extractLsb' 6 2 = 1#2 ∧
          ((b[17 + 2 * i.val]'(by omega)).toNat = 0 ∨ 48 < (b[17 + 2 * i.val]'(by omega)).toNat)) ∨
        ((b[16 + 2 * i.val]'(by omega)).extractLsb' 6 2 = 2#2 ∧
          ((b[17 + 2 * i.val]'(by omega)).toNat = 0 ∨ 12 < (b[17 + 2 * i.val]'(by omega)).toNat))) ∧
    (configFault z b = false → configAtStart z b = readConfig z b) ∧
    (readConfig z b).stops = (b[0]).toNat ∧
    (readConfig z b).pulseMs =
      (if (b[1]).toNat < 20 then 20 else if 250 < (b[1]).toNat then 250 else (b[1]).toNat) ∧
    (readConfig z b).settleMs =
      (if (b[2]).toNat < 10 then 10 else if 100 < (b[2]).toNat then 100 else (b[2]).toNat) ∧
    (readConfig z b).budget = (if (b[3]).toNat = 0 then 1 else if 16 < (b[3]).toNat then 16 else (b[3]).toNat) ∧
    (readConfig z b).sequence = (if (b[4]).toNat = 0 then 1 else if 48 < (b[4]).toNat then 48 else (b[4]).toNat) ∧
    (readConfig z b).coalesceLast = (b[5]).getLsbD 0 ∧
    (readConfig z b).pulseLine = (b[5]).getLsbD 1 ∧
    (∀ n : StopNo, (readConfig z b).excluded[n] =
      (b[64 + n.val / 2]'(by omega)).getLsbD (if n.val % 2 = 0 then 2 else 6)) ∧
    (∀ i : Fin 16, (readConfig z b).pistons[i] =
      if (b[16 + 2 * i.val]'(by omega)).extractLsb' 6 2 = 1#2 then
        some (.general (b[17 + 2 * i.val]'(by omega)).toNat)
      else if (b[16 + 2 * i.val]'(by omega)).extractLsb' 6 2 = 2#2 then
        some (.divisional ((b[16 + 2 * i.val]'(by omega)).extractLsb' 0 4) (b[17 + 2 * i.val]'(by omega)).toNat)
      else none) ∧
    (∀ j : Fin 8, (readConfig z b).aux[j] =
      match (b[48 + 2 * j.val]'(by omega)).toNat with
      | 1 => .set
      | 2 => .generalCancel
      | 3 => .divisionalCancel (if 15 < (b[49 + 2 * j.val]'(by omega)).toNat then 15#4
          else (b[49 + 2 * j.val]'(by omega)).setWidth 4)
      | 4 => .stepNext
      | 5 => .stepPrev
      | 6 => .levelUp
      | 7 => .levelDown
      | 8 => .tutti
      | 9 => .program 0
      | 10 => .program 1
      | 11 => .program 2
      | 12 => .program 3
      | _ => .unused) ∧
    (z.shoeHost = false → (readConfig z b).shoe = none) ∧
    (z.shoeHost = true → ∃ c, (readConfig z b).shoe = some c ∧
      c.heel = (if 1023 < (b[6]).toNat * 256 + (b[7]).toNat then 1023 else (b[6]).toNat * 256 + (b[7]).toNat) ∧
      c.toe = (if 1023 < (b[8]).toNat * 256 + (b[9]).toNat then 1023 else (b[8]).toNat * 256 + (b[9]).toNat) ∧
      c.heelBand = (if 63 < (b[10]).toNat then 63 else (b[10]).toNat) ∧
      c.toeBand = (if 63 < (b[11]).toNat then 63 else (b[11]).toNat) ∧
      c.filter = (if 4 < (b[12]).toNat then 4 else (b[12]).toNat) ∧
      c.stages = (if (b[13]).toNat = 0 then 1 else if 31 < (b[13]).toNat then 31 else (b[13]).toNat) ∧
      c.hysteresis =
        (let h := if 63 < (b[14]).toNat then 63 else (b[14]).toNat
         if 1024 / (c.stages + 1) - 1 < h then 1024 / (c.stages + 1) - 1 else h) ∧
      c.follower = (if 15 < (b[15]).toNat then 15 else (b[15]).toNat))) ∧
  ∀ (z : Straps) (s : State), s.node = .unpowered → s.store.stage = none →
    (s.pins.resetActive = true →
      ∃ t, exec (.powerOn z) s = .next t ∧ t.node = .starting .lineHeld ∧ t.faults.cause = .power ∧
        t.pins = { s.pins with straps := z, supplyGood := true } ∧ t.outputs = Outputs.initial ∧ t.link = Link.initial ∧
        t.sequencer = Sequencer.initial ∧ t.store = s.store ∧ t.block = s.block) ∧
    (∀ y ys, s.pins.resetActive = false →
      (s.pins.strapsToCome = [] ∧ y = z ∧ ys = [] ∨ s.pins.strapsToCome = y :: ys) → exec (.powerOn z) s = .next
      { s with
        node := .starting (.ready (configFault y s.block))
        pins := ⟨y, false, true, ys⟩
        straps := y
        config := configAtStart y s.block
        blockWrite := none
        store := { s.store with writes := [] }
        scanner := s.scanner.started
        resolver := Resolver.initial
        sequencer := Sequencer.initial
        link := Link.initial
        outputs := Outputs.initial
        faults := ⟨if configFault y s.block then Flag.mask .config else 0#10, 0, .power, false, false, none⟩
        service := Service.initial
        shoe := Shoe.initial })

/-- RESET_LINE cuts a powered node and holds it in STARTING, its latched outputs kept; RESET_RELEASE goes on: with the
values after start where no write is in progress, and else with the waiting writes discarded and the write in progress
to finish; it reads the straps as the reading finds them, an open CONFIG-WRITE counts as ended, and in STARTING the
silence state is WAITING (R48, R146, R219, R223, R224, R227; the model's choices: log 8, 9, 24, 36, 37, and log 45 for
the CONFIG-WRITE). -/
def Obligations.ResetLineHoldsAndReleaseGoesOn : Prop :=
  ∀ (z : Straps) (s : State),
    (s.powered = true → s.pins.resetActive = false →
      exec (.resetLine z) s = .next
        { s with
          node := .starting .lineHeld
          pins := { s.pins with straps := z, resetActive := true }
          resolver := { s.resolver with
            program := 0, stage := 0, addition := StopSet.empty, silence := .waiting, crescendoLamp := false,
            tutti := false, tuttiLevel := 0, tuttiAdd := StopSet.empty, tuttiSilence := StopSet.empty,
            tuttiLamp := false }
          sequencer := Sequencer.initial
          link := Link.initial
          outputs := { Outputs.initial with latched := s.outputs.latched }
          faults := { s.faults with cause := .line, pulse := none }
          shoe := Shoe.initial }) ∧
    (s.powered = false → s.pins.resetActive = false →
      exec (.resetLine z) s = .next { s with pins := { s.pins with straps := z, resetActive := true } }) ∧
    (∀ y ys, s.node = .starting .lineHeld → s.pins.resetActive = true → s.store.stage = none →
      (s.pins.strapsToCome = [] ∧ y = s.pins.straps ∧ ys = [] ∨ s.pins.strapsToCome = y :: ys) →
      exec .resetRelease s = .next
        { s with
          node := .starting (.ready (configFault y s.block))
          pins := ⟨y, false, s.pins.supplyGood, ys⟩
          straps := y
          config := configAtStart y s.block
          blockWrite := none
          store := { s.store with writes := [] }
          scanner := s.scanner.started
          resolver := Resolver.initial
          faults := ⟨if configFault y s.block then Flag.mask .config else 0#10, 0, s.faults.cause,
            false, false, none⟩
          service := Service.initial
          shoe := Shoe.initial }) ∧
    (s.node = .starting .lineHeld → s.pins.resetActive = true → s.store.stage ≠ none →
      exec .resetRelease s = .next
        { s with
          node := .starting .storeFinishing
          pins := { s.pins with resetActive := false }
          store := { s.store with writes := s.store.writes.take 1 } })

/-- RESTART at its target begins a start with cause LINK, in RUNNING and in HAND_ONLY and without service mode; a
write in progress is finished first, the waiting writes are discarded, and an active reset line holds the start; at
another node the frame is taken and ignored. The start reads the straps as the reading finds them (R48, R146, R180, R204, R218,
R219, R223, R224; the model's choices: log 8, 9, 15, 24, 36). -/
def Obligations.RestartBeginsAStart : Prop :=
  ∀ (a : Address) (target : Byte) (s : State), s.readsFrame →
    (∀ y ys, s.isTarget target = true → s.pins.resetActive = false → s.store.stage = none →
      (s.pins.strapsToCome = [] ∧ y = s.pins.straps ∧ ys = [] ∨ s.pins.strapsToCome = y :: ys) →
      exec (.restart a target) s = .next
        { s with
          node := .starting (.ready (configFault y s.block))
          pins := { s.pins with straps := y, strapsToCome := ys }
          straps := y
          config := configAtStart y s.block
          blockWrite := none
          store := { s.store with writes := [] }
          scanner := s.scanner.started
          resolver := Resolver.initial
          sequencer := Sequencer.initial
          link := Link.initial
          outputs := { Outputs.initial with latched := s.outputs.latched }
          faults := ⟨if configFault y s.block then Flag.mask .config else 0#10, 0, .link, false, false,
            none⟩
          service := Service.initial
          shoe := Shoe.initial }) ∧
    (s.isTarget target = true → s.pins.resetActive = false → s.store.stage ≠ none →
      ∃ t, exec (.restart a target) s = .next t ∧ t.node = .starting .storeFinishing ∧ t.faults.cause = .link ∧
        t.store = { s.store with writes := s.store.writes.take 1 } ∧ t.link = Link.initial ∧
        t.sequencer = Sequencer.initial ∧ t.outputs = { Outputs.initial with latched := s.outputs.latched } ∧
        t.resolver.silence = .waiting ∧ t.shoe = Shoe.initial ∧ t.block = s.block) ∧
    (s.isTarget target = true → s.pins.resetActive = true →
      ∃ t, exec (.restart a target) s = .next t ∧ t.node = .starting .lineHeld ∧ t.faults.cause = .link ∧
        t.store = s.store ∧ t.link = Link.initial ∧ t.sequencer = Sequencer.initial ∧
        t.outputs = { Outputs.initial with latched := s.outputs.latched } ∧
        t.resolver.silence = .waiting ∧ t.shoe = Shoe.initial ∧ t.block = s.block) ∧
    (s.isTarget target = false → exec (.restart a target) s = .next s.frameTaken)

/-- ENTER_RUNNING, after a start that found no configuration fault and with the supply good: the drawn image is the
debounced sense of the stops below S, the speaking set follows and is shifted at once, a FAULT-NOTE waits in the
queue, and a shoe host's unit becomes ACTIVE with its first sample, whose SHOE waits with the node's own division, or OFF
with CONFIG set (R108, R110, R123, R199, R225; the model's choices: log 25, 43). -/
def Obligations.EnterRunningLoadsTheKnobs : Prop :=
  ∀ (x : Nat) (s : State), s.node = .starting (.ready false) → s.pins.supplyGood = true → x ≤ 1023 →
    s.link = Link.initial → s.outputs.dirty = true → s.outputs.shift = none → s.faults.flags = 0#10 →
    s.faults.notePending = false →
    ∃ t, exec (.enterRunning x) s = .next t ∧
      t = { s with node := .running, resolver := t.resolver, outputs := t.outputs, link := t.link,
                   faults := t.faults, shoe := t.shoe } ∧
      (∀ n : StopNo, t.resolver.drawn[n] = (decide (n.val < s.config.stops) && (s.scanner.stops[n]).value)) ∧
      t.resolver.speaking = t.resolver.speaks s.config.stops ∧
      (s.resolver = Resolver.initial → t.resolver.speaking = t.resolver.drawn) ∧
      t.resolver = { s.resolver with drawn := t.resolver.drawn, speaking := t.resolver.speaking } ∧
      t.outputs = { s.outputs with dirty := false, shift := some t.resolver.speaking } ∧
      holdsNote t.link.queue = true ∧ t.link.line = .seeking ∧
      (∀ c, s.isHost = true → s.config.shoe = some c → c.calibrated = true →
        t.faults.flags = 0#10 ∧
        (∃ e ∈ t.link.queue, e.body = .shoe s.straps.division (lowByte s.shoe.program)
          (lowByte (c.reachedStage (c.normalized x)))) ∧
        t.shoe = { s.shoe with
          unit := .active, filter := some (16 * x), reading := some x, position := some (c.normalized x),
          target := c.reachedStage (c.normalized x), displayed := c.reachedStage (c.normalized x),
          firstDone := true, follower := none, refresh := some 500 }) ∧
      (∀ c, s.isHost = true → s.config.shoe = some c → c.calibrated = false →
        t.faults.flags = Flag.mask .config ∧ holdsShoe t.link.queue = false ∧
        t.shoe = { s.shoe with unit := .off }) ∧
      (s.isHost = false → t.faults.flags = 0#10 ∧ holdsShoe t.link.queue = false ∧ t.shoe = s.shoe)

/-- ENTER_HAND_ONLY, after a start that found a configuration fault and with the supply good: every knob drawn speaks,
the service lamp begins its blink lit, and a FAULT-NOTE waits in the queue. A start that found a configuration fault left
the stop count 64, so that every knob speaks, and the fault line in LEVEL mode (R191, R192, R193, R199, R226; the model's
choice: log 24). -/
def Obligations.EnterHandOnlyPlaysByHand : Prop :=
  (∀ (z : Straps) (b : ConfigBlock), configFault z b = true →
    (configAtStart z b).stops = 64 ∧ (configAtStart z b).pulseLine = false) ∧
  ∀ s : State, s.node = .starting (.ready true) → s.pins.supplyGood = true → s.link = Link.initial →
    s.outputs.dirty = true → s.outputs.shift = none → s.faults.notePending = false →
    s.sequencer = Sequencer.initial →
    ∃ t, exec .enterHandOnly s = .next t ∧
      t = { s with node := .handOnly, resolver := t.resolver, outputs := t.outputs, link := t.link,
                   faults := { s.faults with retryDue := false } } ∧
      (∀ n : StopNo, t.resolver.drawn[n] = (decide (n.val < s.config.stops) && (s.scanner.stops[n]).value)) ∧
      t.resolver = { s.resolver with drawn := t.resolver.drawn, speaking := t.resolver.speaks s.config.stops } ∧
      (s.config.stops = 64 → ∀ n : StopNo, t.resolver.drawn[n] = (s.scanner.stops[n]).value) ∧
      (s.resolver = Resolver.initial → t.resolver.speaking = t.resolver.drawn) ∧
      t.outputs = { s.outputs with dirty := false, shift := some t.resolver.speaking, serviceBlink := some (true, 500) } ∧
      t.serviceLamp = true ∧ holdsNote t.link.queue = true

/-- SUPPLY_FALL in RUNNING cuts every coil and empties the move list; a stop whose move was removed is at rest with
its marker clear and its drawn image at its debounced sense, every other stop keeps its marker and its drawn image;
the cut hold is 20 ms and the stuck count is reported. Where the drawn image changed, the speaking set is recomputed
and the departure check runs once, against the general and then the divisional reference; else references, speaking
set, outputs and queue are left alone. In another state only the supply is noted (R26, R27, R78, R79, R80, R228). -/
def Obligations.SupplyFallCutsTheCoils : Prop :=
  ∀ s : State, s.pins.supplyGood = true →
    (s.node = .running →
      ∃ t u, exec .supplyFall s = .next t ∧
        u = { s with
          pins := { s.pins with supplyGood := false }
          resolver := { s.resolver with drawn := u.resolver.drawn, speaking := u.resolver.speaking }
          sequencer := { s.sequencer with motions := u.sequencer.motions, moves := [], cutHold := some 20 }
          link := u.link
          outputs := u.outputs
          faults := u.faults } ∧
        (∀ n : StopNo,
          ((s.sequencer.motions[n]).motion = .atRest →
            u.sequencer.motions[n] = s.sequencer.motions[n] ∧ u.resolver.drawn[n] = s.resolver.drawn[n]) ∧
          ((s.sequencer.motions[n]).motion ≠ .atRest →
            u.sequencer.motions[n] = ⟨.atRest, false⟩ ∧ u.resolver.drawn[n] = (s.scanner.stops[n]).value)) ∧
        s.stuckFollows u ∧ u.outputs.lamps = s.outputs.lamps ∧
        (u.resolver.drawn = s.resolver.drawn →
          t = u ∧ u.resolver.speaking = s.resolver.speaking ∧ u.outputs = s.outputs) ∧
        (u.resolver.drawn ≠ s.resolver.drawn →
          t = checkDivisional (checkGeneral u) ∧ u.resolver.speaking = u.resolver.speaks s.config.stops ∧
            s.shiftFollows u)) ∧
    (s.node ≠ .running → s.powered = true →
      exec .supplyFall s = .next { s with pins := { s.pins with supplyGood := false } })

/-- SUPPLY_RECOVERY starts the head entry of the write list and ends a cut hold whose 20 ms have passed; CUT_HOLD_END
and START_WAIT_END end their waits; the start rule then applies (R49, R62, R80, R81, R228). -/
def Obligations.WaitsEndWithTheStartRule : Prop :=
  ∀ s : State, s.powered = true →
    (s.pins.supplyGood = false →
      exec .supplyRecovery s = .next (startRule
        { s with
          pins := { s.pins with supplyGood := true }
          store := (startWrite { s with pins := { s.pins with supplyGood := true } }).store
          sequencer := { s.sequencer with
            cutHold := if s.sequencer.cutHold = some 0 then none else s.sequencer.cutHold } })) ∧
    (s.sequencer.cutHold ≠ none → s.pins.supplyGood = true →
      exec .cutHoldEnd s = .next (startRule { s with sequencer := { s.sequencer with cutHold := none } })) ∧
    (s.sequencer.startWait ≠ none →
      exec .startWaitEnd s = .next (startRule { s with sequencer := { s.sequencer with startWait := none } }))

/-- The start rule starts the earliest QUEUED entries of the move list until the budget is reached or none is left,
each with a fresh pulse and its direction and attempt as they were; it changes no other motion, no marker and no
place in the list. It does nothing outside RUNNING, while the supply is low, in the cut hold, and in the wait after the
cut that began the start (R61, R62). -/
def Obligations.StartRuleFillsTheBudget : Prop :=
  (∀ s : State, (s.node ≠ .running ∨ s.pins.supplyGood = false ∨ s.sequencer.cutHold ≠ none ∨
    s.sequencer.startWait ≠ none) → startRule s = s) ∧
  ∀ s : State, s.coilLaw → s.node = .running → s.pins.supplyGood = true → s.sequencer.cutHold = none →
    s.sequencer.startWait = none →
    ∃ k, ∃ started : List StopNo,
      started = (s.sequencer.moves.filter fun n =>
        match (s.sequencer.motions[n]).motion with
        | .queued _ _ => true
        | _ => false).take k ∧
      startRule s = { s with sequencer := { s.sequencer with motions := (startRule s).sequencer.motions } } ∧
      (∀ n : StopNo, ((startRule s).sequencer.motions[n]) =
        match (s.sequencer.motions[n]).motion with
        | .queued d a =>
          if n ∈ started then ⟨.pulsing d a s.config.pulseMs, (s.sequencer.motions[n]).stuck⟩
          else s.sequencer.motions[n]
        | _ => s.sequencer.motions[n]) ∧
      (startRule s).sequencer.energized = s.sequencer.energized + started.length ∧
      ((startRule s).sequencer.energized = s.config.budget ∨
        ∀ n ∈ s.sequencer.moves, ∀ d a, ((startRule s).sequencer.motions[n]).motion ≠ .queued d a)

/-- SUPPLY_LOST stops a powered node: its outputs go off and its state is lost; the lock table, the straps pins and
every record but the one being written are kept, and a record whose write was cut short is written and DAMAGED; the
block is kept, or fails its check where a CONFIG-WRITE was cut short (R35, R49, R216, R227, R228; the model's choices:
log 10, 11, 13, 42). -/
def Obligations.SupplyLostKeepsNonvolatileMemory : Prop :=
  ∀ s : State, s.powered = true → s.store.array.wf = true →
    ∃ t, exec .supplyLost s = .next t ∧
      t.node = .unpowered ∧ t.pins = { s.pins with supplyGood := false } ∧
      t.outputs = Outputs.initial ∧ t.link = Link.initial ∧ t.resolver = Resolver.initial ∧
      t.sequencer = Sequencer.initial ∧ t.service = Service.initial ∧ t.shoe = Shoe.initial ∧
      t.store.writes = [] ∧ t.store.stage = none ∧ t.store.locks = s.store.locks ∧
      (∀ i, (∀ e ws, s.store.stage ≠ none → s.store.writes = e :: ws → i ≠ e.index) →
        t.store.array.read i = s.store.array.read i) ∧
      (∀ e ws, s.store.stage ≠ none → s.store.writes = e :: ws →
        (t.store.array.read e.index).written = true ∧ (t.store.array.read e.index).damaged = true ∧
          (t.store.array.read e.index).bytes.toList.sum + (t.store.array.read e.index).check ≠ 0#8) ∧
      (s.blockWrite = none → t.block = s.block) ∧
      (∀ offset count, s.blockWrite = some (offset, count) → 0 < count → offset + count ≤ 128 →
        (t.block = s.block ∨ blockBalances t.block = false) ∧
        ∀ k : Fin 128, (k.val < offset ∨ offset + count ≤ k.val) → t.block[k] = s.block[k])

/-! ### Contacts and presses -/

/-- CONTACT_CHANGE loads the debounce timer with 16 ms (stop) or 8 ms (piston, auxiliary) where the raw contact comes
to differ from the debounced value, stops it where the contact returns, and does nothing where the contact did not
change (R147). In a node without its supply the input takes the values a start would give it, which is the model's
choice (log 13). -/
def Obligations.ContactChangeLoadsTheDebounceTimer : Prop :=
  ∀ (c : Contact) (closed : Bool) (s : State),
    ∃ d, exec (.contactChange c closed) s = .next { s with scanner := s.scanner.withInput c d } ∧
      (s.powered = true →
        (closed = (s.scanner.input c).raw → d = s.scanner.input c) ∧
        (closed ≠ (s.scanner.input c).raw → closed = (s.scanner.input c).value →
          d = ⟨closed, (s.scanner.input c).value, none⟩) ∧
        (closed ≠ (s.scanner.input c).raw → closed ≠ (s.scanner.input c).value →
          d = ⟨closed, (s.scanner.input c).value, some (match c with
            | .stop _ => 16
            | _ => 8)⟩)) ∧
      (s.powered = false → d = ⟨closed, closed, none⟩)

/-- STOP_SENSE_CHANGE keeps the new sense. In RUNNING a stop at rest, or QUEUED, below S is a hand move: its move is
withdrawn, its marker cleared, the stuck count reported, and its drawn image takes the sense; where that changed the
drawn image, the speaking set is recomputed and the departure check runs, and a withdrawal is followed by the start
rule; no other motion changes. A stop PULSING, SETTLING or RESTING, or at or above S, is only debounced. In HAND_ONLY the
drawn image of a stop below S takes the sense; in STARTING the change is only kept (R7, R22 to R24, R27, R62, R75, R76,
R78, R148, R149). -/
def Obligations.SenseChangeIsAHandMoveOrIgnored : Prop :=
  ∀ (n : StopNo) (s : State), (s.scanner.stops[n]).timer ≠ none → s.powered = true →
    ∃ t scanner, exec (.stopSenseChange n) s = .next t ∧
      scanner = { s.scanner with
        stops := put s.scanner.stops n ⟨(s.scanner.stops[n]).raw, (s.scanner.stops[n]).raw, none⟩ } ∧
      ((s.node = .running ∧ n.val < s.config.stops ∧
          ((s.sequencer.motions[n]).motion = .atRest ∨ ∃ d a, (s.sequencer.motions[n]).motion = .queued d a)) →
        ∃ u v,
          u = { s with
            scanner := scanner
            resolver := { s.resolver with
              drawn := put s.resolver.drawn n (s.scanner.stops[n]).raw
              speaking := u.resolver.speaking }
            sequencer := { s.sequencer with
              motions := put s.sequencer.motions n ⟨.atRest, false⟩
              moves := u.sequencer.moves }
            link := u.link
            outputs := u.outputs
            faults := u.faults } ∧
          s.stuckFollows u ∧ u.outputs.lamps = s.outputs.lamps ∧
          (s.resolver.drawn[n] = (s.scanner.stops[n]).raw →
            v = u ∧ u.resolver.speaking = s.resolver.speaking ∧ u.outputs = s.outputs) ∧
          (s.resolver.drawn[n] ≠ (s.scanner.stops[n]).raw →
            v = checkDivisional (checkGeneral u) ∧ u.resolver.speaking = u.resolver.speaks s.config.stops ∧
              s.shiftFollows u) ∧
          ((s.sequencer.motions[n]).motion = .atRest → t = v ∧ u.sequencer.moves = s.sequencer.moves) ∧
          (∀ d a, (s.sequencer.motions[n]).motion = .queued d a →
            t = startRule v ∧ u.sequencer.moves = s.sequencer.moves.filter (· != n))) ∧
      ((s.node = .handOnly ∧ n.val < s.config.stops) →
        t = { s with
          scanner := scanner
          resolver := { s.resolver with
            drawn := put s.resolver.drawn n (s.scanner.stops[n]).raw
            speaking := t.resolver.speaks s.config.stops }
          outputs := t.outputs } ∧
        s.shiftFollows t ∧ t.outputs.lamps = s.outputs.lamps) ∧
      ((s.config.stops ≤ n.val ∨ (s.node ≠ .running ∧ s.node ≠ .handOnly) ∨
          (s.node = .running ∧ (s.sequencer.motions[n]).motion ≠ .atRest ∧
            ∀ d a, (s.sequencer.motions[n]).motion ≠ .queued d a)) →
        t = { s with scanner := scanner })

/-- The departure check: a reference absent, departed or contradicted by no counted stop is left alone; else one
DEVIATE with its tag is offered, the departed flag is set when the queue admits it, and stays clear, with TX_OVERFLOW
set, when the queue refuses. An excluded stop is not counted for the general reference (R27, R28, R29, R30). -/
def Obligations.DepartureCheckOffersADeviate : Prop :=
  ∀ s : State, s.live = true →
    (s.resolver.general = none → checkGeneral s = s) ∧
    (∀ r, s.resolver.general = some r →
      ((r.departed = true ∨ ¬ ∃ n : StopNo, s.config.excluded[n] = false ∧ s.contradicts r n) → checkGeneral s = s) ∧
      (r.departed = false → (∃ n : StopNo, s.config.excluded[n] = false ∧ s.contradicts r n) →
        (hasPlace s.link.queue = true →
          checkGeneral s =
            { joinQueue (.deviate .general r.tag) s with
              resolver := { s.resolver with general := some { r with departed := true } } }) ∧
        (hasPlace s.link.queue = false →
          checkGeneral s = setFlag .txOverflow s ∧ (checkGeneral s).faults.has .txOverflow = true))) ∧
    (s.resolver.divisional = none → checkDivisional s = s) ∧
    (∀ r, s.resolver.divisional = some r →
      ((r.departed = true ∨ ¬ ∃ n : StopNo, s.contradicts r n) → checkDivisional s = s) ∧
      (r.departed = false → (∃ n : StopNo, s.contradicts r n) →
        (hasPlace s.link.queue = true →
          checkDivisional s =
            { joinQueue (.deviate .divisional r.tag) s with
              resolver := { s.resolver with divisional := some { r with departed := true } } }) ∧
        (hasPlace s.link.queue = false →
          checkDivisional s = setFlag .txOverflow s ∧ (checkDivisional s).faults.has .txOverflow = true)))

/-- A frame that joins the queue stands behind a head under way and every frame of its class or a lower one, and ahead
of every waiting frame of a higher class; every other frame keeps its place. On an idle link with an empty queue its
attempt starts at once. A SHOE offered while the queue holds one updates that entry in place and is admitted though the
queue be full; else it joins a free place, and a full queue refuses it with TX_OVERFLOW (R123, R170, R181, R182, R183). -/
def Obligations.OffersKeepTheQueueOrder : Prop :=
  (∀ (b : Body) (s : State), s.queueLaw →
     (s.link.line ≠ .idle →
       ∃ before after, s.link.queue = before ++ after ∧
         joinQueue b s =
           { s with
             link := { s.link with
               queue := before ++ ⟨b, s.link.admitted, false, false⟩ :: after
               admitted := s.link.admitted + 1 } } ∧
         (∀ f ∈ after, f.underWay = false ∧ b.cls < f.body.cls) ∧
         ∀ f ∈ before, f.underWay = true ∨ f.body.cls ≤ b.cls) ∧
     (s.link.line = .idle → s.link.queue = [] → s.live = true →
       joinQueue b s =
         { s with
           link := ⟨.frame, some (b.frame s), [⟨b, s.link.admitted, true, false⟩], s.link.admitted + 1⟩ })) ∧
  (∀ (d : Division) (p k : Byte) (s : State),
     (holdsShoe s.link.queue = true →
       offer (.shoe d p k) s = ({ s with link := { s.link with queue := (offer (.shoe d p k) s).1.link.queue } }, true) ∧
       (offer (.shoe d p k) s).1.link.queue.length = s.link.queue.length ∧
       ∀ i : Nat, ∀ e, s.link.queue[i]? = some e →
         (offer (.shoe d p k) s).1.link.queue[i]? =
           some (match e.body with
             | .shoe own _ _ => { e with body := .shoe own p k }
             | _ => e)) ∧
     (holdsShoe s.link.queue = false → hasPlace s.link.queue = true →
       offer (.shoe d p k) s = (joinQueue (.shoe d p k) s, true)) ∧
     (holdsShoe s.link.queue = false → hasPlace s.link.queue = false →
       offer (.shoe d p k) s = (setFlag .txOverflow s, false)))

/-- RECALL_PRESS with no matching RECALL in the queue offers one fixed at the press, with the counter's serial: a free
place admits it and the counter advances, a full queue refuses it with TX_OVERFLOW and the counter stays. With a matching
press RECALL in the queue: under FIRST it is dropped; under LAST it rewrites the oldest waiting one, which keeps its place,
and takes a serial, or is offered as a new frame where only one under way matches (R3, R153, R154, R156; log 27). -/
def Obligations.RecallPressOffersOrCoalesces : Prop :=
  (∀ (i : Fin 16) (p : Piston) (s : State), s.node = .running → s.config.pistons[i] = some p →
     (s.scanner.pistons[i]).timer ≠ none → (s.scanner.pistons[i]).raw = true → s.setHeld = false →
     (∀ e ∈ s.link.queue, e.matchesPress p.scope (s.divisionFor p) = false) →
     (hasPlace s.link.queue = true →
       exec (.recallPress i) s = .next (advanceSerial (joinQueue
         (.recall p.scope (s.divisionFor p) (lowByte p.number) (lowByte s.resolver.level) s.resolver.serial)
         (s.debounced (.piston i))))) ∧
     (hasPlace s.link.queue = false →
       exec (.recallPress i) s = .next (setFlag .txOverflow (s.debounced (.piston i))))) ∧
  (∀ (i : Fin 16) (p : Piston) (s : State), s.node = .running → s.config.pistons[i] = some p →
     (s.scanner.pistons[i]).timer ≠ none → (s.scanner.pistons[i]).raw = true → s.setHeld = false →
     (∃ e ∈ s.link.queue, e.matchesPress p.scope (s.divisionFor p) = true) →
     (s.config.coalesceLast = false → exec (.recallPress i) s = .next (s.debounced (.piston i))) ∧
     (∀ before e after, s.config.coalesceLast = true → s.link.queue = before ++ e :: after →
       e.underWay = false → e.matchesPress p.scope (s.divisionFor p) = true →
       (∀ f ∈ before, f.matchesPress p.scope (s.divisionFor p) = true → f.underWay = true) →
       exec (.recallPress i) s = .next
         { s.debounced (.piston i) with
           link := { s.link with
             queue := before ++
               { e with
                 body := .recall p.scope (s.divisionFor p) (lowByte p.number) (lowByte s.resolver.level)
                   s.resolver.serial } :: after }
           resolver := { s.resolver with serial := s.resolver.serial + 1 } }) ∧
     (s.config.coalesceLast = true →
       (∀ e ∈ s.link.queue, e.matchesPress p.scope (s.divisionFor p) = true → e.underWay = true) →
       exec (.recallPress i) s = .next
         (if hasPlace s.link.queue then
           advanceSerial (joinQueue
             (.recall p.scope (s.divisionFor p) (lowByte p.number) (lowByte s.resolver.level) s.resolver.serial)
             (s.debounced (.piston i)))
         else setFlag .txOverflow (s.debounced (.piston i)))))

/-- CAPTURE_PRESS at a locked level, or refused by a full queue, blinks every lamp of the piston fast and takes no
serial; otherwise it queues a CAPTURE at the current level and the serial counter advances (R53, R95, R157). -/
def Obligations.CapturePressIsCheckedAndQueued : Prop :=
  ∀ (i : Fin 16) (p : Piston) (s : State), s.node = .running → s.config.pistons[i] = some p →
    (s.scanner.pistons[i]).timer ≠ none → (s.scanner.pistons[i]).raw = true → s.setHeld = true →
    (s.store.locked s.resolver.level = true →
      exec (.capturePress i) s = .next (blinkPiston .fast p (s.debounced (.piston i)))) ∧
    (s.store.locked s.resolver.level = false → hasPlace s.link.queue = true →
      exec (.capturePress i) s = .next (advanceSerial (joinQueue
        (.capture p.scope (s.divisionFor p) (lowByte p.number) (lowByte s.resolver.level) s.resolver.serial)
        (s.debounced (.piston i))))) ∧
    (s.store.locked s.resolver.level = false → hasPlace s.link.queue = false →
      exec (.capturePress i) s = .next (blinkPiston .fast p (setFlag .txOverflow (s.debounced (.piston i)))))

/-- GENERAL_CANCEL_PRESS and DIVISIONAL_CANCEL_PRESS queue a CANCEL, the first with the node's own division and the
second with the one its input names. In a full queue it takes the place of the youngest frame of the highest class that is
not under way; the queue stays full, TX_OVERFLOW is set, and an evicted FAULT-NOTE is owed again (R158, R182, R185,
R201). -/
def Obligations.CancelPressesAlwaysReachTheQueue : Prop :=
  (∀ (j : Fin 8) (s : State), s.node = .running → (s.scanner.aux[j]).timer ≠ none → (s.scanner.aux[j]).raw = true →
     (s.config.aux[j] = .generalCancel →
       exec (.generalCancelPress j) s = .next
         (if hasPlace s.link.queue then
           joinQueue (.cancel .general (divisionByte s.straps.division)) (s.debounced (.aux j))
         else evictFor (.cancel .general (divisionByte s.straps.division)) (s.debounced (.aux j)))) ∧
     (∀ d, s.config.aux[j] = .divisionalCancel d →
       exec (.divisionalCancelPress j) s = .next
         (if hasPlace s.link.queue then joinQueue (.cancel .divisional (divisionByte d)) (s.debounced (.aux j))
         else evictFor (.cancel .divisional (divisionByte d)) (s.debounced (.aux j))))) ∧
  (∀ (sc : Scope) (d : Byte) (s : State), s.queueLaw → s.link.queue.length = 8 → s.live = true → s.link.line ≠ .idle →
     ∃ v ∈ s.link.queue, v.underWay = false ∧
       (∀ e ∈ s.link.queue, e.underWay = false → e = v ∨ e.before v = true) ∧
       (evictFor (.cancel sc d) s).link.queue.length = 8 ∧
       (∀ e, e ∈ (evictFor (.cancel sc d) s).link.queue →
         e = ⟨.cancel sc d, s.link.admitted, false, false⟩ ∨ e ∈ s.link.queue ∨
           (∃ e' ∈ s.link.queue, e'.body.isNote = true ∧ e'.underWay = true ∧ e = { e' with merged := true })) ∧
       ⟨.cancel sc d, s.link.admitted, false, false⟩ ∈ (evictFor (.cancel sc d) s).link.queue ∧
       v ∉ (evictFor (.cancel sc d) s).link.queue ∧
       (evictFor (.cancel sc d) s).faults.has .txOverflow = true ∧
       (v.body.isNote = true → (evictFor (.cancel sc d) s).faults.notePending = true) ∧
       evictFor (.cancel sc d) s =
         { s with link := (evictFor (.cancel sc d) s).link, faults := (evictFor (.cancel sc d) s).faults })

/-- The late-bound presses queue a step RECALL with the counter's serial, a LEVEL, or a TUTTI, whose payloads are not
fixed yet; a full queue refuses each with TX_OVERFLOW and takes no serial (R97, R103, R143, R159, R160, R161). -/
def Obligations.LateBoundPressesQueueTheirFrame : Prop :=
  ∀ (j : Fin 8) (s : State), s.node = .running → (s.scanner.aux[j]).timer ≠ none → (s.scanner.aux[j]).raw = true →
    (s.config.aux[j] = .stepNext → exec (.stepNextPress j) s = .next
      (if hasPlace s.link.queue then
        advanceSerial (joinQueue (.step true s.resolver.serial) (s.debounced (.aux j)))
      else setFlag .txOverflow (s.debounced (.aux j)))) ∧
    (s.config.aux[j] = .stepPrev → exec (.stepPrevPress j) s = .next
      (if hasPlace s.link.queue then
        advanceSerial (joinQueue (.step false s.resolver.serial) (s.debounced (.aux j)))
      else setFlag .txOverflow (s.debounced (.aux j)))) ∧
    (s.config.aux[j] = .levelUp → exec (.levelUpPress j) s = .next
      (if hasPlace s.link.queue then joinQueue (.level true) (s.debounced (.aux j))
      else setFlag .txOverflow (s.debounced (.aux j)))) ∧
    (s.config.aux[j] = .levelDown → exec (.levelDownPress j) s = .next
      (if hasPlace s.link.queue then joinQueue (.level false) (s.debounced (.aux j))
      else setFlag .txOverflow (s.debounced (.aux j)))) ∧
    (s.config.aux[j] = .tutti → exec (.tuttiPress j) s = .next
      (if hasPlace s.link.queue then joinQueue .tutti (s.debounced (.aux j))
      else setFlag .txOverflow (s.debounced (.aux j))))

/-- SET_PRESS, PISTON_RELEASE and PRESS_IGNORED change the debounced value of their input, which is its press latch,
and nothing else. PROGRAM_PRESS at an ACTIVE unit whose program is another sets the program and offers a SHOE with it;
naming the present program, or at a unit OFF or INACTIVE, it changes only its input (R122, R123, R148, R150, R151,
R152, R162; the model's choices: log 23, 40). -/
def Obligations.LatchAndProgramPresses : Prop :=
  (∀ s : State,
     (∀ j : Fin 8, s.node = .running → (s.scanner.aux[j]).timer ≠ none → (s.scanner.aux[j]).raw = true →
       s.config.aux[j] = .set →
       exec (.setPress j) s = .next
         { s with scanner := { s.scanner with aux := put s.scanner.aux j ⟨true, true, none⟩ } }) ∧
     (∀ c : Contact, c.hasLatch = true → s.powered = true → (s.scanner.input c).timer ≠ none →
       (s.scanner.input c).raw = false →
       exec (.pistonRelease c) s = .next { s with scanner := s.scanner.withInput c ⟨false, false, none⟩ }) ∧
     (∀ c : Contact, c.hasLatch = true → s.powered = true → (s.scanner.input c).timer ≠ none →
       (s.scanner.input c).raw = true → (s.node ≠ .running ∨ s.pressHasNoEffect c = true) →
       exec (.pressIgnored c) s = .next { s with scanner := s.scanner.withInput c ⟨true, true, none⟩ })) ∧
  (∀ (j : Fin 8) (k : Fin 4) (s : State), s.node = .running → (s.scanner.aux[j]).timer ≠ none →
     (s.scanner.aux[j]).raw = true → s.config.aux[j] = .program k →
     (s.shoe.unit = .active → s.config.shoe ≠ none → s.shoe.program ≠ k.val →
       exec (.programPress j) s = .next
         (offer (.shoe s.straps.division (lowByte k.val) (lowByte s.shoe.displayed))
           { s.debounced (.aux j) with shoe := { s.shoe with program := k.val } }).1) ∧
     ((s.shoe.unit ≠ .active ∨ s.shoe.program = k.val) →
       exec (.programPress j) s = .next (s.debounced (.aux j))))

/-! ### The line -/

/-- LINK_IDLE with an empty queue leaves the link idle; with a waiting frame it starts an attempt with the head marked
under way, its frame of the class and kind of its command and from the node's address, and its payload bound as it then
stands. A press RECALL, CAPTURE, CANCEL, DEVIATE, SHOE, STORE-DATA and SCAN-REPLY carry the fields they were queued with, a SHOE
its program and stage without its division; a step RECALL of a node with no last general position is (current
level, G1), a LEVEL one level up or down within 0 to 127, a TUTTI the opposite of the tutti state at the current level, and
a FAULT-NOTE the start cause, the flags and the stuck count. START_BIT_READ in IDLE or GAP begins a frame (R100, R103, R143,
R164, R167, R168, R169, R170, R175, R200; the model's choice for a SHOE: log 43). -/
def Obligations.IdleLinkStartsAnAttempt : Prop :=
  (∀ s : State, s.live = true →
     (s.link.line ≠ .frame → s.link.queue = [] →
       exec .linkIdle s = .next { s with link := { s.link with line := .idle } }) ∧
     (∀ e q, s.link.line ≠ .frame → s.link.queue = e :: q →
       exec .linkIdle s = .next
         { s with link := ⟨.frame, some (e.body.frame s), { e with underWay := true } :: q, s.link.admitted⟩ }) ∧
     ((s.link.line = .idle ∨ s.link.line = .gap) →
       exec .startBitRead s = .next { s with link := { s.link with line := .frame } })) ∧
  (∀ (s : State) (e : QueueEntry) (q : List QueueEntry), s.live = true → s.link.line ≠ .frame → s.link.queue = e :: q →
     ∃ t f, exec .linkIdle s = .next t ∧ t.link.sending = some f ∧ f.sender = s.straps.address ∧
       (f.cls, f.kind) = (match e.body with
         | .cancel _ _ => (0#3, 0x01#5)
         | .recall _ _ _ _ _ => (1#3, 0x02#5)
         | .step _ _ => (1#3, 0x02#5)
         | .tutti => (2#3, 0x03#5)
         | .shoe _ _ _ => (3#3, 0x04#5)
         | .capture _ _ _ _ _ => (4#3, 0x05#5)
         | .level _ => (4#3, 0x06#5)
         | .deviate _ _ => (5#3, 0x08#5)
         | .storeData _ _ => (6#3, 0x14#5)
         | .scanReply _ _ _ => (6#3, 0x16#5)
         | .faultNote => (7#3, 0x1E#5)) ∧
       (∀ d, e.body = .cancel .general d → f.payload = [0#8, d]) ∧
       (∀ d, e.body = .cancel .divisional d → f.payload = [1#8, d]) ∧
       (∀ d piston level serial, e.body = .recall .general d piston level serial →
         f.payload = [0#8, d, piston, level, serial, 0#8]) ∧
       (∀ d piston level serial, e.body = .recall .divisional d piston level serial →
         f.payload = [1#8, d, piston, level, serial, 0#8]) ∧
       (∀ d piston level serial, e.body = .capture .general d piston level serial →
         f.payload = [0#8, d, piston, level, serial]) ∧
       (∀ d piston level serial, e.body = .capture .divisional d piston level serial →
         f.payload = [1#8, d, piston, level, serial]) ∧
       (∀ tag : Tag, e.body = .deviate .general tag →
         f.payload = [0#8, s.straps.division.setWidth 8, tag.address.setWidth 8, tag.serial]) ∧
       (∀ tag : Tag, e.body = .deviate .divisional tag →
         f.payload = [1#8, s.straps.division.setWidth 8, tag.address.setWidth 8, tag.serial]) ∧
       (∀ d program stage, e.body = .shoe d program stage → f.payload = [program, stage]) ∧
       (∀ part data, e.body = .storeData part data → f.payload = part :: data) ∧
       (∀ found high low, e.body = .scanReply found high low → f.payload = [found, high, low]) ∧
       (∀ forward serial, e.body = .step forward serial → s.resolver.lastGeneral = none →
         f.payload = [0#8, s.straps.division.setWidth 8, 1#8, BitVec.ofNat 8 s.resolver.level, serial,
           if forward then 1#8 else 2#8]) ∧
       (e.body = .level true → s.resolver.level < 127 → f.payload = [lowByte (s.resolver.level + 1)]) ∧
       (e.body = .level true → s.resolver.level = 127 → f.payload = [127#8]) ∧
       (e.body = .level false → f.payload = [lowByte (s.resolver.level - 1)]) ∧
       (e.body = .tutti → ∃ x, f.payload = [x, lowByte s.resolver.level] ∧ (x = 0#8 ↔ s.resolver.tutti = true)) ∧
       (e.body = .faultNote → ∃ high low, f.payload = [high, low, lowByte s.faults.stuckCount] ∧
         low = s.faults.flags.extractLsb' 0 8 ∧ high.extractLsb' 0 2 = s.faults.flags.extractLsb' 8 2 ∧
         high.extractLsb' 2 2 = (match s.faults.cause with
           | .none => 0#2
           | .power => 1#2
           | .line => 2#2
           | .link => 3#2) ∧
         high.extractLsb' 4 4 = 0#4))

/-- A step-next RECALL is bound at the start of its attempt from the last general position; the sequence length is read
at start and clamped to 1 to 48 (R98). -/
def Obligations.StepNextIsBoundFromTheLastPosition : Prop :=
  (∀ (s : State) (e : QueueEntry) (q : List QueueEntry) (serial : Byte) (l n : Nat),
    s.live = true → s.link.line ≠ .frame → s.link.queue = e :: q → e.body = .step true serial →
    s.resolver.lastGeneral = some (l, n) →
    ∃ t l' n', exec .linkIdle s = .next t ∧
      t.link.sending = some ⟨1#3, s.straps.address, 2#5,
        [0#8, divisionByte s.straps.division, lowByte n', lowByte l', serial, 1#8]⟩ ∧
      (n < s.config.sequence → l' = l ∧ n' = n + 1) ∧
      (s.config.sequence ≤ n → l < 127 → l' = l + 1 ∧ n' = 1) ∧
      (s.config.sequence ≤ n → l = 127 → l' = 127 ∧ n' = s.config.sequence)) ∧
  ∀ (z : Straps) (b : ConfigBlock),
    (readConfig z b).sequence =
      if (b[4]).toNat = 0 then 1 else if 48 < (b[4]).toNat then 48 else (b[4]).toNat

/-- A step-prev RECALL is bound at the start of its attempt from the last general position (R99). -/
def Obligations.StepPrevIsBoundFromTheLastPosition : Prop :=
  ∀ (s : State) (e : QueueEntry) (q : List QueueEntry) (serial : Byte) (l n : Nat),
    s.live = true → s.link.line ≠ .frame → s.link.queue = e :: q → e.body = .step false serial →
    s.resolver.lastGeneral = some (l, n) → 1 ≤ n →
    ∃ t l' n', exec .linkIdle s = .next t ∧
      t.link.sending = some ⟨1#3, s.straps.address, 2#5,
        [0#8, divisionByte s.straps.division, lowByte n', lowByte l', serial, 2#8]⟩ ∧
      (s.config.sequence < n → l' = l ∧ n' = s.config.sequence) ∧
      (2 ≤ n → n ≤ s.config.sequence → l' = l ∧ n' = n - 1) ∧
      (n = 1 → 1 ≤ s.config.sequence → 0 < l → l' = l - 1 ∧ n' = s.config.sequence) ∧
      (n = 1 → 1 ≤ s.config.sequence → l = 0 → l' = 0 ∧ n' = 1)

/-- ARBITRATION_LOST to a lower arbitration field leaves the frame in the queue, in its order among the waiting
frames, no longer under way and without a mark; a field that is not lower changes nothing. READBACK_MISMATCH drops the
head frame, goes to SEEKING and sets READBACK; a merged FAULT-NOTE is followed by a new offer first. FORMAT_ERROR and
BAD_CHECK discard the frame of another station: LINK_CRC is reported, the line goes to SEEKING or to GAP, and nothing
else changes; bits led by a recessive bit begin no frame (R171, R172, R175, R176, R181, R184, R201). -/
def Obligations.LineErrorsKeepOrDropTheFrame : Prop :=
  (∀ (s : State) (f : RawFrame) (e : QueueEntry) (q : List QueueEntry) (field : BitVec 9),
     s.link.sending = some f → s.link.queue = e :: q →
     (field < arbitrationField f →
       exec (.arbitrationLost field) s = .next
         { s with link := { s.link with
           sending := none, queue := insertEntry { e with underWay := false, merged := false } q } }) ∧
     (arbitrationField f ≤ field → exec (.arbitrationLost field) s = .next s)) ∧
  (∀ (s : State) (f : RawFrame) (e : QueueEntry) (q : List QueueEntry),
     s.link.sending = some f → s.link.queue = e :: q → s.live = true →
     ∃ t u, exec .readbackMismatch s = .next t ∧
       u = { s with
         link := { s.link with line := .seeking, sending := none, queue := q }
         faults := { s.faults with retryDue := s.faults.notePending } } ∧
       t = setFlag .readback (if e.body.isNote && e.merged then offerNote u else u) ∧
       t.link.line = .seeking ∧ t.link.sending = none ∧ t.faults.has .readback = true) ∧
  (∀ (s : State) (bits : List Bool), s.readsFrame →
     (assemble bits = .formatError →
       exec (.formatError bits) s = .next (setFlag .linkCrc { s with link := { s.link with line := .seeking } })) ∧
     (∀ f, assemble bits = .badCheck f →
       exec (.badCheck bits) s = .next (setFlag .linkCrc { s with link := { s.link with line := .gap } })) ∧
     exec (.formatError (true :: bits)) s = .next s ∧ exec (.badCheck (true :: bits)) s = .next s)

/-- A report of a cause changes nothing where the flag is set already or the node is not playing. A new flag is set,
pulses the line for 50 ms in PULSE mode, and makes a FAULT-NOTE call: merged with the queue's FAULT-NOTE, or admitted to
a free place, or refused and owed, with TX_OVERFLOW set (R182, R184, R193, R194, R198, R199, R201). -/
def Obligations.NewFlagMakesACall : Prop :=
  ∀ (f : Flag) (s : State),
    ((s.live = false ∨ s.faults.has f = true) → setFlag f s = s) ∧
    (s.live = true → s.faults.has f = false →
      (setFlag f s).faults.has f = true ∧
      (∀ g : Flag, g ≠ f → g ≠ .txOverflow → (setFlag f s).faults.has g = s.faults.has g) ∧
      (setFlag f s).faults.pulse = (if s.node = .running ∧ s.config.pulseLine = true then some 50 else s.faults.pulse) ∧
      (setFlag f s).faults.cause = s.faults.cause ∧ (setFlag f s).faults.stuckCount = s.faults.stuckCount ∧
      setFlag f s = { s with link := (setFlag f s).link, faults := (setFlag f s).faults } ∧
      (s.faults.notePending = true → (setFlag f s).link = s.link ∧ (setFlag f s).faults.notePending = true) ∧
      (s.faults.notePending = false → holdsNote s.link.queue = true →
        (setFlag f s).link = { s.link with queue := mergeNote s.link.queue } ∧
        (setFlag f s).faults.notePending = false) ∧
      (s.faults.notePending = false → holdsNote s.link.queue = false → hasPlace s.link.queue = true →
        (setFlag f s).link = (joinQueue .faultNote (setNotePending false (raiseFlag f s))).link ∧
        (setFlag f s).faults.notePending = false) ∧
      (s.faults.notePending = false → holdsNote s.link.queue = false → hasPlace s.link.queue = false →
        (setFlag f s).link = s.link ∧ (setFlag f s).faults.notePending = true ∧
        (setFlag f s).faults.has .txOverflow = true))

/-- UNKNOWN_KIND takes a frame whose kind, class or length breaks the table and reports it; a RECALL, CAPTURE or
CANCEL of a scope above 1 is reported in RUNNING and only taken in HAND_ONLY. In RUNNING a RECALL or CAPTURE with a
piston, level or division out of range, or a divisional CANCEL of a division above 15, and at its target a CONFIG-
WRITE past the end of the block, is ignored with UNKNOWN_KIND (R177, R178, R179; log 34 for CONFIG-WRITE outside
service mode; the model's choices: log 15, 35). -/
def Obligations.FramesTurnedAwayAreReported : Prop :=
  (∀ (f : RawFrame) (s : State), s.readsFrame → f.payload.length ≤ 8 →
     (f.knownKind = none → exec (.unknownKind f) s = .next (setFlag .unknownKind s.frameTaken)) ∧
     (∀ k scope rest, f.knownKind = some k → (k = .recall ∨ k = .capture ∨ k = .cancel) → f.payload = scope :: rest →
       1 < scope.toNat →
       (s.node = .running → exec (.unknownKind f) s = .next (setFlag .unknownKind s.frameTaken)) ∧
       (s.node = .handOnly → exec (.unknownKind f) s = .next s.frameTaken))) ∧
  (∀ (a : Address) (d p l n o t : Byte) (data : List Byte) (s : State), s.runsAndReads →
     ((p.toNat = 0 ∨ 48 < p.toNat ∨ 127 < l.toNat) →
       exec (.generalRecall a d p l n o) s = .next (setFlag .unknownKind s.frameTaken) ∧
       exec (.generalCapture a d p l n) s = .next (setFlag .unknownKind s.frameTaken)) ∧
     ((p.toNat = 0 ∨ 12 < p.toNat ∨ 127 < l.toNat ∨ 15 < d.toNat) →
       exec (.divisionalRecall a d p l n o) s = .next (setFlag .unknownKind s.frameTaken) ∧
       exec (.divisionalCapture a d p l n) s = .next (setFlag .unknownKind s.frameTaken)) ∧
     (15 < d.toNat → exec (.divisionalCancel a d) s = .next (setFlag .unknownKind s.frameTaken)) ∧
     (1 ≤ data.length → data.length ≤ 6 → 128 < o.toNat + data.length → s.isTarget t = true →
       exec (.configWrite a t o data) s = .next (setFlag .unknownKind s.frameTaken)))

/-- A node in STARTING or without its supply takes no frame, and a receiver in SEEKING takes none; the frames only a
RUNNING node acts on leave a HAND_ONLY node as any frame taken does (R7, R167, R178, R187). -/
def Obligations.FramesNotTakenChangeNothing : Prop :=
  ∀ (c : Instr) (f : RawFrame) (s : State), frameOf c = some f →
    ((s.live = false ∨ (s.link.sending = none ∧ s.link.line = .seeking)) → exec c s = .next s) ∧
    (s.readsFrame → s.node = .handOnly → c.wellFormed = true →
      (∃ k, f.knownKind = some k ∧ (k = .cancel ∨ k = .recall ∨ k = .tutti ∨ k = .shoe ∨ k = .capture ∨ k = .level ∨
        k = .deviate ∨ k = .storeData ∨ k = .scanReply ∨ k = .faultNote)) →
      commandOf f = c →
      exec c s = .next s.frameTaken)

/-- A sender takes its own frame as a receiver does: what a frame it sent does is what the same frame does at a node
that reads it, once the frame has left the queue (R174). A FAULT-NOTE, whose sender also clears its start cause, has
its own statement (the model's choice: log 15). -/
def Obligations.SenderTakesItsOwnFrame : Prop :=
  ∀ (c : Instr) (f : RawFrame) (e : QueueEntry) (q : List QueueEntry) (s : State),
    c.wellFormed = true → frameOf c = some f → commandOf f = c → s.live = true → s.link.sending = some f →
    s.link.queue = e :: q →
    (e.body.isNote && e.merged) = false → (∀ a high low count, c ≠ .faultNote a high low count) →
    exec c s = exec c { s with
      link := { s.link with line := .frame, sending := none, queue := q }
      faults := { s.faults with retryDue := s.faults.notePending } }

/-! ### RECALL, CANCEL, CAPTURE, DEVIATE, LEVEL and LOCK -/

/-- One pass hands the stops below S whose target differs from the drawn image to the sequencer: a stop at rest off its
target is queued at the tail, in stop order; one already on its target only loses its marker; a queued or pulsing or
settling or resting move toward the target goes on, and one away from it turns, resting 20 ms where a pulse or settle is
cut. Every other stop is left alone (R10, R59, R69 to R73). -/
def Obligations.NewTargetsQueueOrTurnTheMoves : Prop :=
  ∀ (s : State) (target : StopSet), s.coilLaw →
    let sq := passTargets s target s.sequencer
    sq.cutHold = s.sequencer.cutHold ∧ sq.startWait = s.sequencer.startWait ∧
    sq.moves = s.sequencer.moves ++ (List.finRange 64).filter (fun n =>
      decide (n.val < s.config.stops) && target[n] != s.resolver.drawn[n] &&
        (s.sequencer.motions[n]).motion == .atRest && target[n] != (s.scanner.stops[n]).value) ∧
    ∀ n : StopNo,
      ((s.config.stops ≤ n.val ∨ target[n] = s.resolver.drawn[n]) → sq.motions[n] = s.sequencer.motions[n]) ∧
      (n.val < s.config.stops → target[n] ≠ s.resolver.drawn[n] →
        sq.motions[n] = match (s.sequencer.motions[n]).motion with
          | .atRest =>
            if target[n] = (s.scanner.stops[n]).value then ⟨.atRest, false⟩
            else ⟨.queued target[n] .first, (s.sequencer.motions[n]).stuck⟩
          | .queued d _ =>
            if target[n] = d then s.sequencer.motions[n]
            else ⟨.queued target[n] .first, (s.sequencer.motions[n]).stuck⟩
          | .pulsing d _ _ =>
            if target[n] = d then s.sequencer.motions[n]
            else ⟨.resting d target[n] (some target[n]) 20, (s.sequencer.motions[n]).stuck⟩
          | .settling d _ _ =>
            if target[n] = d then s.sequencer.motions[n]
            else ⟨.resting d target[n] (some target[n]) 20, (s.sequencer.motions[n]).stuck⟩
          | .resting cut d _ left =>
            if target[n] = d then s.sequencer.motions[n]
            else ⟨.resting cut target[n] (if target[n] = cut then none else some target[n]) left,
              (s.sequencer.motions[n]).stuck⟩)

/-- GENERAL_RECALL at a node of any division, and DIVISIONAL_RECALL at its own, draw the stops the record draws,
retire those it retires and leave the others, the code of each stop below S standing in two bits of the answer's bytes; the moves, the references, the speaking set, the lamps and the start
rule follow; a damaged record reads all LEAVE and sets DAMAGED. A DIVISIONAL_RECALL of another division only takes its
lamp reference, where the node keeps one (R12, R13, R31, R33, R35, R38, R39, R86, R87; the model's choice: log 29). -/
def Obligations.RecallsTakeTheRecord : Prop :=
  (∀ (i : Nat) (k : StopNo) (s : State),
    entryCode (s.store.answer i) k =
      (((s.store.answer i)[k.val / 4]'(by omega)) >>> (2 * (k.val % 4))).setWidth 2 ∧
    (s.combination i)[k] =
      if s.config.stops ≤ k.val then .leave
      else match entryCode (s.store.answer i) k with
        | 1#2 => .draw
        | 2#2 => .retire
        | _ => .leave) ∧
  ∀ (a : Address) (d p l n o : Byte) (s : State), s.runsAndReads → 1 ≤ p.toNat → l.toNat ≤ 127 →
    (p.toNat ≤ 48 →
      ∃ t, exec (.generalRecall a d p l n o) s = .next t ∧
        t = { s with
          blockWrite := none
          resolver := { s.resolver with
            drawn := t.resolver.drawn
            speaking := t.resolver.speaks s.config.stops
            general := some ⟨⟨a, n⟩, p.toNat, s.combination (l.toNat * 48 + (p.toNat - 1)), false, false⟩
            lastGeneral := some (l.toNat, p.toNat)
            divisional := none
            lampRefs := Vector.replicate 16 none }
          sequencer := (startRule { s with
            sequencer := passTargets s t.resolver.drawn s.sequencer }).sequencer
          link := t.link
          outputs := t.outputs
          faults := t.faults } ∧
        (∀ k : StopNo, t.resolver.drawn[k] =
          match (s.combination (l.toNat * 48 + (p.toNat - 1)))[k] with
          | .leave => s.resolver.drawn[k]
          | .draw => true
          | .retire => false) ∧
        t.faults.stuckCount = t.sequencer.stuckCount ∧ t.link.line = .gap ∧ t.link.sending = none ∧
        (s.store.readDamaged (l.toNat * 48 + (p.toNat - 1)) = true →
          t.faults.has .damaged = true ∧ t.resolver.drawn = s.resolver.drawn ∧
            t.resolver.general = some ⟨⟨a, n⟩, p.toNat, Vector.replicate 64 .leave, false, false⟩ ∧
            t.sequencer.moves = s.sequencer.moves) ∧
        (s.store.readDamaged (l.toNat * 48 + (p.toNat - 1)) = false →
          { s with link := { s.link with line := .gap } }.stuckFollows t) ∧
        s.shiftFollows t ∧ s.lampsFollow t) ∧
    (d = divisionByte s.straps.division → p.toNat ≤ 12 →
      ∃ u, exec (.divisionalRecall a d p l n o) s = .next (startRule (checkGeneral u)) ∧
        u = { s with
          blockWrite := none
          resolver := { s.resolver with
            drawn := u.resolver.drawn
            speaking := u.resolver.speaks s.config.stops
            divisional := some ⟨⟨a, n⟩, p.toNat, s.combination (6144 + l.toNat * 12 + (p.toNat - 1)), false, false⟩ }
          sequencer := passTargets s u.resolver.drawn s.sequencer
          link := u.link
          outputs := u.outputs
          faults := u.faults } ∧
        (∀ k : StopNo, u.resolver.drawn[k] =
          match (s.combination (6144 + l.toNat * 12 + (p.toNat - 1)))[k] with
          | .leave => s.resolver.drawn[k]
          | .draw => true
          | .retire => false) ∧
        u.faults.stuckCount = u.sequencer.stuckCount ∧ u.link.line = .gap ∧ u.link.sending = none ∧
        (s.store.readDamaged (6144 + l.toNat * 12 + (p.toNat - 1)) = true →
          u.faults.has .damaged = true ∧ u.resolver.drawn = s.resolver.drawn ∧
            u.resolver.divisional = some ⟨⟨a, n⟩, p.toNat, Vector.replicate 64 .leave, false, false⟩ ∧
            u.sequencer.moves = s.sequencer.moves) ∧
        (s.store.readDamaged (6144 + l.toNat * 12 + (p.toNat - 1)) = false →
          { s with link := { s.link with line := .gap } }.stuckFollows u) ∧
        s.shiftFollows u ∧ s.lampsFollow u) ∧
    (d ≠ divisionByte s.straps.division → d.toNat ≤ 15 → p.toNat ≤ 12 →
      ∃ t, exec (.divisionalRecall a d p l n o) s = .next t ∧
        t = { s.frameTaken with
          resolver := { s.resolver with lampRefs := t.resolver.lampRefs }
          outputs := { s.outputs with lamps := t.outputs.lamps } } ∧
        (∀ k : Fin 16, t.resolver.lampRefs[k] =
          if k.val = d.toNat ∧ s.keepsLampReference (divisionOf d) = true then some ⟨⟨a, n⟩, p.toNat, false⟩
          else s.resolver.lampRefs[k]) ∧
        s.lampsFollow t)

/-- GENERAL_CANCEL retires every stop below S, clears every reference and turns tutti off; DIVISIONAL_CANCEL of the
own division retires every stop below S and clears the divisional reference, with a departure check; of another
division it clears the lamp reference, where the node keeps one (R15, R16, R87, R140; the model's choice: log 29). -/
def Obligations.CancelsRetireEveryStop : Prop :=
  ∀ (a : Address) (d : Byte) (s : State), s.runsAndReads →
    (∃ t, exec (.generalCancel a d) s = .next t ∧
      t = { s with
        blockWrite := none
        resolver := { s.resolver with
          drawn := t.resolver.drawn
          speaking := t.resolver.speaks s.config.stops
          general := none
          divisional := none
          lampRefs := Vector.replicate 16 none
          tutti := false
          tuttiAdd := StopSet.empty
          tuttiSilence := StopSet.empty
          tuttiLamp := false }
        sequencer := (startRule { s with sequencer := passTargets s StopSet.empty s.sequencer }).sequencer
        link := t.link
        outputs := t.outputs
        faults := t.faults } ∧
      (∀ k : StopNo, t.resolver.drawn[k] = (decide (s.config.stops ≤ k.val) && s.resolver.drawn[k])) ∧
      { s with link := { s.link with line := .gap } }.stuckFollows t ∧ s.shiftFollows t ∧ s.lampsFollow t) ∧
    (d = divisionByte s.straps.division →
      ∃ u, exec (.divisionalCancel a d) s = .next (startRule (checkGeneral u)) ∧
        u = { s with
          blockWrite := none
          resolver := { s.resolver with
            drawn := u.resolver.drawn
            speaking := u.resolver.speaks s.config.stops
            divisional := none }
          sequencer := passTargets s StopSet.empty s.sequencer
          link := u.link
          outputs := u.outputs
          faults := u.faults } ∧
        (∀ k : StopNo, u.resolver.drawn[k] = (decide (s.config.stops ≤ k.val) && s.resolver.drawn[k])) ∧
        { s with link := { s.link with line := .gap } }.stuckFollows u ∧ s.shiftFollows u ∧ s.lampsFollow u) ∧
    (d ≠ divisionByte s.straps.division → d.toNat ≤ 15 →
      ∃ t, exec (.divisionalCancel a d) s = .next t ∧
        t = { s.frameTaken with
          resolver := { s.resolver with lampRefs := t.resolver.lampRefs }
          outputs := { s.outputs with lamps := t.outputs.lamps } } ∧
        (∀ k : Fin 16, t.resolver.lampRefs[k] =
          if k.val = d.toNat ∧ s.keepsLampReference (divisionOf d) = true then none else s.resolver.lampRefs[k]) ∧
        s.lampsFollow t)

/-- GENERAL_CAPTURE and DIVISIONAL_CAPTURE of the own division offer the drawn image as the record of the level and
piston: every stop below S drawn or retired, but for a general one the excluded stops, which read LEAVE. No stop moves;
the reference is the captured one whatever the answer; the lamps of the piston blink slow where the store admits the
write, and then the record reads back as captured and changed, and fast with STORE_FULL where it refuses. Another
division's capture only takes its lamp reference and blinks slow (R17, R18, R19, R20, R44, R87, R94). -/
def Obligations.CapturesStoreTheDrawnImage : Prop :=
  ∀ (a : Address) (d p l n : Byte) (s : State), s.runsAndReads → s.writeListLaw → 1 ≤ p.toNat → l.toNat ≤ 127 →
    (p.toNat ≤ 48 →
      ∃ t entries w, exec (.generalCapture a d p l n) s = .next t ∧
        (∀ k : StopNo, entries[k] =
          if s.config.stops ≤ k.val ∨ s.config.excluded[k] = true then Entry.leave
          else if s.resolver.drawn[k] then .draw else .retire) ∧
        w = offerWrite (l.toNat * 48 + (p.toNat - 1)) (packEntries entries) .capture s.frameTaken ∧
        t = { w.1 with
          resolver := { s.resolver with
            general := some ⟨⟨a, n⟩, p.toNat, entries, false, false⟩
            lastGeneral := some (l.toNat, p.toNat)
            divisional := none
            lampRefs := Vector.replicate 16 none }
          outputs := { s.outputs with lamps := t.outputs.lamps } } ∧
        (w.2 = true → t.combination (l.toNat * 48 + (p.toNat - 1)) = entries ∧
          t.store.changedFlag (l.toNat * 48 + (p.toNat - 1)) = true ∧ t.faults = s.faults) ∧
        (w.2 = false → t.store = s.store ∧ t.faults.has .storeFull = true) ∧
        (∀ j, j ≠ l.toNat * 48 + (p.toNat - 1) → t.store.answer j = s.store.answer j) ∧
        ∀ i : Fin 16, t.outputs.lamps[i] =
          ⟨t.steadyValue s.config.pistons[i],
            if s.config.pistons[i] = some (.general p.toNat) then
              some (if w.2 then ⟨.slow, 6, 500⟩ else ⟨.fast, 8, 125⟩)
            else (s.outputs.lamps[i]).blink⟩) ∧
    (d = divisionByte s.straps.division → p.toNat ≤ 12 →
      ∃ t entries w, exec (.divisionalCapture a d p l n) s = .next t ∧
        (∀ k : StopNo, entries[k] =
          if s.config.stops ≤ k.val then Entry.leave else if s.resolver.drawn[k] then .draw else .retire) ∧
        w = offerWrite (6144 + l.toNat * 12 + (p.toNat - 1)) (packEntries entries) .capture s.frameTaken ∧
        t = { w.1 with
          resolver := { s.resolver with divisional := some ⟨⟨a, n⟩, p.toNat, entries, false, false⟩ }
          outputs := { s.outputs with lamps := t.outputs.lamps } } ∧
        (w.2 = true → t.combination (6144 + l.toNat * 12 + (p.toNat - 1)) = entries ∧
          t.store.changedFlag (6144 + l.toNat * 12 + (p.toNat - 1)) = true ∧ t.faults = s.faults) ∧
        (w.2 = false → t.store = s.store ∧ t.faults.has .storeFull = true) ∧
        (∀ j, j ≠ 6144 + l.toNat * 12 + (p.toNat - 1) → t.store.answer j = s.store.answer j) ∧
        ∀ i : Fin 16, t.outputs.lamps[i] =
          ⟨t.steadyValue s.config.pistons[i],
            if s.config.pistons[i] = some (.divisional s.straps.division p.toNat) then
              some (if w.2 then ⟨.slow, 6, 500⟩ else ⟨.fast, 8, 125⟩)
            else (s.outputs.lamps[i]).blink⟩) ∧
    (d ≠ divisionByte s.straps.division → d.toNat ≤ 15 → p.toNat ≤ 12 →
      ∃ t, exec (.divisionalCapture a d p l n) s = .next t ∧
        t = { s.frameTaken with
          resolver := { s.resolver with lampRefs := t.resolver.lampRefs }
          outputs := { s.outputs with lamps := t.outputs.lamps } } ∧
        (∀ k : Fin 16, t.resolver.lampRefs[k] =
          if k.val = d.toNat ∧ s.keepsLampReference (divisionOf d) = true then some ⟨⟨a, n⟩, p.toNat, false⟩
          else s.resolver.lampRefs[k]) ∧
        ∀ i : Fin 16, t.outputs.lamps[i] =
          ⟨t.steadyValue s.config.pistons[i],
            if s.config.pistons[i] = some (.divisional (divisionOf d) p.toNat) then some ⟨.slow, 6, 500⟩
            else (s.outputs.lamps[i]).blink⟩)

/-- DEVIATE darkens the one record its scope and division look at when the tag matches, and the lamps follow; a tag that
does not match, a tag address of 0, an absent record, a scope above 1 or a division above 15 leaves the state as a taken
frame does. LEVEL sets the current level in RUNNING, LOCK the lock flag of one level in RUNNING and in HAND_ONLY, each
level clamped to 127; no other lock flag and nothing else changes (R52, R88, R89, R104). -/
def Obligations.DeviateLevelAndLockActOnTheirRecord : Prop :=
  (∀ (a : Address) (scope d ta n : Byte) (s : State), s.runsAndReads → s.lampLaw →
     (∀ r, scope = 0#8 → s.resolver.general = some r → ta ≠ 0#8 → addressByte r.tag.address = ta → r.tag.serial = n →
       ∃ t, exec (.deviate a scope d ta n) s = .next t ∧ s.lampsFollow t ∧
         t = { s.frameTaken with
           resolver := { s.resolver with general := some { r with dark := true } }
           outputs := { s.outputs with lamps := t.outputs.lamps } }) ∧
     (∀ r, scope = 1#8 → d = divisionByte s.straps.division → s.resolver.divisional = some r → ta ≠ 0#8 →
       addressByte r.tag.address = ta → r.tag.serial = n →
       ∃ t, exec (.deviate a scope d ta n) s = .next t ∧ s.lampsFollow t ∧
         t = { s.frameTaken with
           resolver := { s.resolver with divisional := some { r with dark := true } }
           outputs := { s.outputs with lamps := t.outputs.lamps } }) ∧
     (∀ r, ∀ k : Fin 16, scope = 1#8 → d.toNat = k.val → d ≠ divisionByte s.straps.division →
       s.keepsLampReference (divisionOf d) = true → s.resolver.lampRefs[k] = some r → ta ≠ 0#8 →
       addressByte r.tag.address = ta → r.tag.serial = n →
       ∃ t, exec (.deviate a scope d ta n) s = .next t ∧ s.lampsFollow t ∧
         t = { s.frameTaken with
           resolver := { s.resolver with lampRefs := put s.resolver.lampRefs k (some { r with dark := true }) }
           outputs := { s.outputs with lamps := t.outputs.lamps } }) ∧
     ((scope = 0#8 → ∀ r, s.resolver.general = some r → ta = 0#8 ∨ addressByte r.tag.address ≠ ta ∨ r.tag.serial ≠ n) →
       (scope = 1#8 → d = divisionByte s.straps.division → ∀ r, s.resolver.divisional = some r →
         ta = 0#8 ∨ addressByte r.tag.address ≠ ta ∨ r.tag.serial ≠ n) →
       (scope = 1#8 → d ≠ divisionByte s.straps.division → ∀ k : Fin 16, d.toNat = k.val →
         ∀ r, s.resolver.lampRefs[k] = some r → ta = 0#8 ∨ addressByte r.tag.address ≠ ta ∨ r.tag.serial ≠ n) →
       exec (.deviate a scope d ta n) s = .next s.frameTaken)) ∧
  (∀ (a : Address) (l k : Byte) (s : State),
     (s.runsAndReads → exec (.level a l) s = .next
       { s.frameTaken with resolver := { s.resolver with level := if 127 < l.toNat then 127 else l.toNat } }) ∧
     (s.readsFrame → ∃ t, exec (.lock a l k) s = .next t ∧
       t = { s.frameTaken with store := { s.store with locks := t.store.locks } } ∧
       ∀ i : Fin 128, t.store.locks[i] =
         if i.val = (if 127 < l.toNat then 127 else l.toNat) then decide (k ≠ 0#8) else s.store.locks[i]))

/-! ### SHOE and TUTTI -/

/-- SHOE sets program and stage, clamped, the addition set of the stage record (empty at stage 0), the crescendo lamp
and the silence timer, and ends SILENT; a damaged record adds nothing and sets DAMAGED. At a shoe host a SHOE of
another address sets SECOND_SHOE, and an own one reloads the refresh timer and is offered again where the unit has
moved on (R124, R125, R130, R131, R133, R135, R136; the model's choice: log 22). -/
def Obligations.ShoeFramesSetTheCrescendo : Prop :=
  ∀ (a : Address) (program stage : Byte) (s : State), s.runsAndReads →
    ∃ u p k, exec (.shoe a program stage) s = .next (hostTakesShoe a p k u) ∧
      p = (if 3 < program.toNat then 3 else program.toNat) ∧ k = (if 31 < stage.toNat then 31 else stage.toNat) ∧
      u = { s with
        blockWrite := none
        resolver := { s.resolver with
          program := p
          stage := k
          addition := u.resolver.addition
          crescendoLamp := decide (0 < k)
          silence := .fed 5 500
          speaking := u.resolver.speaks s.config.stops }
        link := u.link
        outputs := u.outputs
        faults := u.faults } ∧
      (∀ n : StopNo, u.resolver.addition[n] =
        (decide (0 < k) && decide (n.val < s.config.stops) &&
          entryCode (s.store.answer (7680 + p * 32 + k)) n == 1#2)) ∧
      (s.resolver.silence = .silent → u.faults.has .shoeSilent = false) ∧
      (k = 0 → u.resolver.addition = StopSet.empty) ∧
      (0 < k → s.store.readDamaged (7680 + p * 32 + k) = true →
        u.faults.has .damaged = true ∧ u.resolver.addition = StopSet.empty) ∧
      ((k = 0 ∨ s.store.readDamaged (7680 + p * 32 + k) = false) → u.link = { s.link with line := .gap } ∧
        (s.resolver.silence ≠ .silent → u.faults = s.faults)) ∧
      s.shiftFollows u ∧ u.outputs.lamps = s.outputs.lamps ∧
      (s.isHost = false → hostTakesShoe a p k u = u) ∧
      (s.isHost = true → a ≠ s.straps.address →
        hostTakesShoe a p k u = setFlag .secondShoe u ∧ (setFlag .secondShoe u).faults.has .secondShoe = true) ∧
      (s.isHost = true → a = s.straps.address → (s.shoe.unit ≠ .active ∨ s.config.shoe = none) →
        hostTakesShoe a p k u = u) ∧
      (s.isHost = true → a = s.straps.address → s.shoe.unit = .active → s.config.shoe ≠ none →
        (p = s.shoe.program → k = s.shoe.displayed →
          hostTakesShoe a p k u = { u with shoe := { s.shoe with refresh := some 500 } }) ∧
        ((p ≠ s.shoe.program ∨ k ≠ s.shoe.displayed) →
          hostTakesShoe a p k u =
            (offer (.shoe s.straps.division (lowByte s.shoe.program) (lowByte s.shoe.displayed))
              { u with shoe := { s.shoe with refresh := some 500 } }).1))

/-- TUTTI_ON loads the tutti sets from the tutti record of the level, clamped: the stops it draws are added and those it
retires are silenced; a damaged record gives two empty sets and sets DAMAGED. TUTTI_OFF empties both sets, keeps the
tutti level and reads no record. No drawn image and no move changes (R137, R138, R139). -/
def Obligations.TuttiSetsFollowTheFrame : Prop :=
  ∀ (a : Address) (state l : Byte) (s : State), s.runsAndReads →
    (state ≠ 0#8 →
      ∃ t v, exec (.tuttiOn a state l) s = .next t ∧ v = (if 127 < l.toNat then 127 else l.toNat) ∧
        t = { s with
          blockWrite := none
          resolver := { s.resolver with
            tutti := true
            tuttiLamp := true
            tuttiLevel := v
            tuttiAdd := t.resolver.tuttiAdd
            tuttiSilence := t.resolver.tuttiSilence
            speaking := t.resolver.speaks s.config.stops }
          link := t.link
          outputs := t.outputs
          faults := t.faults } ∧
        (∀ n : StopNo,
          (t.resolver.tuttiAdd[n] = true ↔
            n.val < s.config.stops ∧ entryCode (s.store.answer (7808 + v)) n = 1#2) ∧
          (t.resolver.tuttiSilence[n] = true ↔
            n.val < s.config.stops ∧ entryCode (s.store.answer (7808 + v)) n = 2#2)) ∧
        (s.store.readDamaged (7808 + v) = true → t.faults.has .damaged = true ∧
          t.resolver.tuttiAdd = StopSet.empty ∧ t.resolver.tuttiSilence = StopSet.empty) ∧
        (s.store.readDamaged (7808 + v) = false → t.faults = s.faults ∧ t.link = { s.link with line := .gap }) ∧
        s.shiftFollows t ∧ t.outputs.lamps = s.outputs.lamps) ∧
    (∃ t, exec (.tuttiOff a l) s = .next t ∧
      t = { s.frameTaken with
        resolver := { s.resolver with
          tutti := false
          tuttiLamp := false
          tuttiAdd := StopSet.empty
          tuttiSilence := StopSet.empty
          speaking := t.resolver.speaks s.config.stops }
        outputs := t.outputs } ∧
      s.shiftFollows t ∧ t.outputs.lamps = s.outputs.lamps)

/-- SILENCE_PERIOD lowers the count of a FED silence timer from above 2 and starts a new period; at 2, and at
SILENCE_EXPIRY, the state becomes SILENT and SHOE_SILENT is set, while program, stage, addition set, lamp and speaking
set hold (R133, R134; the model's choice: log 30). -/
def Obligations.SilenceHoldsTheCrescendo : Prop :=
  ∀ (s : State) (count left : Nat), s.node = .running → s.resolver.silence = .fed count left →
    (2 < count → exec .silencePeriod s = .next
      { s with resolver := { s.resolver with silence := .fed (count - 1) 500 } }) ∧
    (2 < count → exec .silenceExpiry s = .next s) ∧
    (count ≤ 2 → ∃ t, exec .silencePeriod s = .next t ∧ exec .silenceExpiry s = .next t ∧
      t = { s with resolver := { s.resolver with silence := .silent }, link := t.link, faults := t.faults } ∧
      t.faults.has .shoeSilent = true ∧
      (s.faults.has .shoeSilent = true → t.faults = s.faults ∧ t.link = s.link))

/-! ### Service access -/

/-- A service frame that its node does not obey, because its target is another or because the node is in RUNNING with
service mode off, is taken and ignored (R180, R204). Obeyed, SERVICE_MODE_ON turns service mode on in RUNNING and
clears the changed flags where its option asks for it, but that of a capture being written; SERVICE_MODE_OFF ends the
mode, the read, the partial write and the held scan; the store pointers, STORE_READ and CHANGED_SCAN set their
registers, with values out of range clamped (R36, R179, R203, R206, R211, R213, R214; the model's choice: log 21). -/
def Obligations.ServiceFramesSetServiceAccess : Prop :=
  ∀ (a : Address) (target x hi lo option : Byte) (s : State), s.readsFrame →
    (s.isTarget target = false →
      exec (.serviceModeOff a target option) s = .next s.frameTaken ∧
      (x ≠ 0#8 → exec (.serviceModeOn a target x option) s = .next s.frameTaken ∧
        exec (.storePointWrite a target x hi lo) s = .next s.frameTaken) ∧
      exec (.storePointRead a target hi lo) s = .next s.frameTaken ∧
      exec (.storeRead a target x) s = .next s.frameTaken ∧
      exec (.changedScan a target hi lo) s = .next s.frameTaken) ∧
    (s.node = .running → s.service.mode = false →
      exec (.serviceModeOff a target option) s = .next s.frameTaken ∧
      (x ≠ 0#8 → exec (.storePointWrite a target x hi lo) s = .next s.frameTaken) ∧
      exec (.storePointRead a target hi lo) s = .next s.frameTaken ∧
      exec (.storeRead a target x) s = .next s.frameTaken ∧
      exec (.changedScan a target hi lo) s = .next s.frameTaken) ∧
    (s.isTarget target = true → s.node = .handOnly → exec (.serviceModeOff a target option) s = .next s.frameTaken) ∧
    (s.isTarget target = true → s.node = .running → s.service.mode = true →
      exec (.serviceModeOff a target option) s = .next
        { s.frameTaken with
          service := ⟨false, ⟨s.service.readPointer.index, 0⟩, ⟨s.service.writePointer.index, 0⟩, [], none, 0, none⟩ }) ∧
    (s.isTarget target = true → x ≠ 0#8 → s.memoryLaw →
      ∃ t, exec (.serviceModeOn a target x option) s = .next t ∧
        t = { s.frameTaken with
          service := { s.service with mode := decide (s.node = .running) || s.service.mode }
          store := { s.store with array := t.store.array } } ∧
        (option = 0#8 → t.store = s.store) ∧
        (option ≠ 0#8 → ∀ i, t.store.array.read i =
          if s.store.stage ≠ none ∧ s.store.writes.head?.map (fun e => (e.index, e.source)) = some (i, .capture) then
            s.store.array.read i
          else { s.store.array.read i with changed := false })) ∧
    (s.isTarget target = true → (s.node = .handOnly ∨ s.service.mode = true) →
      exec (.storePointRead a target hi lo) s = .next
        { s.frameTaken with
          service := { s.service with readPointer := ⟨min (hi.toNat * 256 + lo.toNat) 7935, 0⟩, readCopy := none } } ∧
      (x ≠ 0#8 → exec (.storePointWrite a target x hi lo) s = .next
        { s.frameTaken with
          service := { s.service with writePointer := ⟨min (hi.toNat * 256 + lo.toNat) 7935, 0⟩, received := [] } }) ∧
      exec (.storeRead a target x) s = .next
        { s.frameTaken with
          service := { s.service with
            outstanding := if x.toNat = 0 then 1 else if 16 < x.toNat then 16 else x.toNat
            readCopy := none
            readPointer :=
              if s.service.readCopy = none then s.service.readPointer else ⟨s.service.readPointer.index, 0⟩ } } ∧
      exec (.changedScan a target hi lo) s = .next
        { s.frameTaken with service := { s.service with scan := some (min (hi.toNat * 256 + lo.toNat) 7935) } })

/-- STORE_WRITE obeyed adds the 6 bytes of part 0 or 1 to the partial record; bytes of another number end the partial
write. The 4 bytes of part 2 complete the record: the write is offered to the store, the write pointer goes on to the next
record, from 7935 to 0, whatever the answer, and an admitted write reloads the tutti or crescendo set it feeds, read
through the write list. Not obeyed, the frame is only taken (R142, R180, R204, R208, R209, R210). -/
def Obligations.StoreWriteBuildsARecord : Prop :=
  ∀ (a : Address) (target : Byte) (data : List Byte) (s : State), s.readsFrame → s.serviceLaw → data.length ≤ 7 →
    ((s.isTarget target = false ∨ (s.node = .running ∧ s.service.mode = false)) →
      exec (.storeWrite a target data) s = .next s.frameTaken) ∧
    (s.isTarget target = true → (s.node = .handOnly ∨ s.service.mode = true) →
      (s.service.writePointer.part < 2 → data.length = 6 →
        exec (.storeWrite a target data) s = .next
          { s.frameTaken with
            service := { s.service with
              writePointer := ⟨s.service.writePointer.index, s.service.writePointer.part + 1⟩
              received := s.service.received ++ data } }) ∧
      (data.length ≠ (if s.service.writePointer.part = 2 then 4 else 6) →
        exec (.storeWrite a target data) s = .next
          { s.frameTaken with
            service := { s.service with writePointer := ⟨s.service.writePointer.index, 0⟩, received := [] } }) ∧
      (s.service.writePointer.part = 2 → data.length = 4 →
        ∃ i bytes w u t, exec (.storeWrite a target data) s = .next t ∧
          i = s.service.writePointer.index ∧
          (∀ k : Fin 16, (s.service.received ++ data)[k.val]? = some bytes[k]) ∧
          w = offerWrite i bytes .service s.frameTaken ∧
          u = { w.1 with
            service := { s.service with writePointer := ⟨if i = 7935 then 0 else i + 1, 0⟩, received := [] } } ∧
          (w.2 = false → t = u) ∧
          (w.2 = true → s.writeListLaw → s.levelLaw → t.store.answer i = bytes ∧ t.store.changedFlag i = false ∧
            (s.resolver.tutti = true → i = 7808 + s.resolver.tuttiLevel →
              t = { u with resolver := t.resolver, outputs := t.outputs } ∧
              t.resolver = { s.resolver with
                tuttiAdd := stopsWith .draw (combinationView s.config.stops bytes)
                tuttiSilence := stopsWith .retire (combinationView s.config.stops bytes)
                speaking := t.resolver.speaks s.config.stops } ∧
              s.shiftFollows t) ∧
            (0 < s.resolver.stage → i = 7680 + s.resolver.program * 32 + s.resolver.stage →
              t = { u with resolver := t.resolver, outputs := t.outputs } ∧
              t.resolver = { s.resolver with
                addition := stageView s.config.stops bytes
                speaking := t.resolver.speaks s.config.stops } ∧
              s.shiftFollows t) ∧
            ((s.resolver.tutti = false ∨ i ≠ 7808 + s.resolver.tuttiLevel) →
              (s.resolver.stage = 0 ∨ i ≠ 7680 + s.resolver.program * 32 + s.resolver.stage) → t = u))))

/-- CONFIG_WRITE obeyed writes its bytes into the block and changes nothing else that works. FAULT_CLEAR at its target
clears the flags its mask names, keeps or sets again each following flag whose cause lasts, and makes a FAULT-NOTE
call; it needs no service mode (R196, R204, R216, R217; the model's choices: log 11, 25). -/
def Obligations.ConfigWriteAndFaultClear : Prop :=
  ∀ (a : Address) (target offset hi lo : Byte) (data : List Byte) (s : State), s.readsFrame →
    (1 ≤ data.length → data.length ≤ 6 → offset.toNat + data.length ≤ 128 →
      ((s.isTarget target = false ∨ (s.node = .running ∧ s.service.mode = false)) →
        exec (.configWrite a target offset data) s = .next s.frameTaken) ∧
      (s.isTarget target = true → (s.node = .handOnly ∨ s.service.mode = true) →
        ∃ t, exec (.configWrite a target offset data) s = .next t ∧
          t = { s.frameTaken with block := t.block, blockWrite := some (offset.toNat, data.length) } ∧
          ∀ k : Fin 128,
            (∀ j b, data[j]? = some b → k.val = offset.toNat + j → t.block[k] = b) ∧
            ((k.val < offset.toNat ∨ offset.toNat + data.length ≤ k.val) → t.block[k] = s.block[k]))) ∧
    (s.isTarget target = false → exec (.faultClear a target hi lo) s = .next s.frameTaken) ∧
    (s.isTarget target = true →
      ∃ t, exec (.faultClear a target hi lo) s = .next t ∧
        t = { s.frameTaken with link := t.link, faults := t.faults } ∧
        t.faults.cause = s.faults.cause ∧ t.faults.stuckCount = s.faults.stuckCount ∧
        t.link.line = .gap ∧ t.link.sending = none ∧
        (∀ f : Flag, f ≠ .txOverflow →
          (t.faults.has f = true ↔
            (s.faults.has f = true ∧ (hi ++ lo).getLsbD f.bit.val = false) ∨
              (f = .stuck ∧ 0 < s.faults.stuckCount) ∨ (f = .shoeSilent ∧ s.resolver.silence = .silent) ∨
                (f = .config ∧ (s.node = .handOnly ∨ s.shoe.unit = .off)))) ∧
        (s.faults.notePending = true →
          t.link = { s.link with line := .gap } ∧ t.faults = { s.faults with flags := t.faults.flags }) ∧
        (s.faults.notePending = false → holdsNote s.link.queue = true ∨ s.link.queue.length < 8 →
          holdsNote t.link.queue = true ∧ t.faults.notePending = false ∧ t.faults.pulse = s.faults.pulse ∧
          (t.faults.has .txOverflow = true ↔ s.faults.has .txOverflow = true ∧ (hi ++ lo).getLsbD 4 = false)) ∧
        (s.faults.notePending = false → holdsNote s.link.queue = false → 8 ≤ s.link.queue.length →
          t.link = { s.link with line := .gap } ∧ t.faults.notePending = true ∧ t.faults.has .txOverflow = true))

/-- No node acts on a FAULT_NOTE, STORE_DATA or SCAN_REPLY of another station. Its own FAULT-NOTE, sent to the end
with a start cause, leaves the start cause none; one that was merged while under way is followed by a new offer (R174,
R178, R184, R200; the model's choice: log 39). -/
def Obligations.ReportsTakenChangeNothing : Prop :=
  ∀ (a : Address) (hi lo x : Byte) (data : List Byte) (s : State),
    (s.readsFrame →
      exec (.faultNote a hi lo x) s = .next s.frameTaken ∧ exec (.scanReplyTaken a x hi lo) s = .next s.frameTaken ∧
      (data.length = 4 ∨ data.length = 6 → exec (.storeDataTaken a x data) s = .next s.frameTaken)) ∧
    (∀ e q, s.live = true → s.link.sending = some ⟨7#3, a, 0x1E#5, [hi, lo, x]⟩ → s.link.queue = e :: q →
      e.body = .faultNote → s.faults.notePending = false →
      (e.merged = false → exec (.faultNote a hi lo x) s = .next
        { s with
          blockWrite := none
          link := { s.link with line := .gap, sending := none, queue := q }
          faults := { s.faults with
            retryDue := false
            cause := if hi.extractLsb' 2 2 = 0#2 then s.faults.cause else .none } }) ∧
      (e.merged = true → hasPlace q = true → holdsNote q = false →
        exec (.faultNote a hi lo x) s = .next
          { s with
            blockWrite := none
            link := { s.link with
              line := .gap
              sending := none
              queue := insertEntry ⟨.faultNote, s.link.admitted, false, false⟩ q
              admitted := s.link.admitted + 1 }
            faults := { s.faults with
              retryDue := false
              cause := if hi.extractLsb' 2 2 = 0#2 then s.faults.cause else .none } }))

/-- STORE_DATA offers a part to each free place, in part order, until the queue is full or no part remains, each as it
stands when its turn comes: part 0 reads the record into the read copy, parts 1 and 2 are taken from the copy, and part 2
discards it and goes on to the next record. SCAN_REPLY offers the lowest changed index at or after the start of the scan,
or found 0, and drops the scan. FAULT_NOTE_RETRY offers the FAULT-NOTE that is owed. Where the conditions do not hold,
nothing changes (R182, R186, R201, R207, R212, R214; the model's choices: log 19, 20). -/
def Obligations.RepliesAreOfferedAtAFreePlace : Prop :=
  ∀ s : State,
    (s.serviceLaw → s.replyMayBeOffered = true → s.service.scan = none → 0 < s.service.outstanding →
      ∃ n, 0 < n ∧ exec .storeData s = .next (offerNextPart^[n] s) ∧
        (∀ k, k < n → hasPlace (offerNextPart^[k] s).link.queue = true ∧
          0 < (offerNextPart^[k] s).service.outstanding) ∧
        (hasPlace (offerNextPart^[n] s).link.queue = false ∨ (offerNextPart^[n] s).service.outstanding = 0)) ∧
    (hasPlace s.link.queue = true →
      (s.service.readPointer.part = 0 → s.store.readDamaged s.service.readPointer.index = false →
        offerNextPart s =
          { joinQueue (.storeData 0#8 ((s.store.answer s.service.readPointer.index).toList.take 6)) s with
            service := { s.service with
              readPointer := ⟨s.service.readPointer.index, 1⟩
              readCopy := some (s.store.answer s.service.readPointer.index) } }) ∧
      (s.service.readPointer.part = 0 → s.store.readDamaged s.service.readPointer.index = true →
        s.store.answer s.service.readPointer.index = Vector.replicate 16 0#8 ∧
        (hasPlace (setFlag .damaged s).link.queue = true →
          offerNextPart s =
            { joinQueue (.storeData 0#8 (List.replicate 6 0#8)) (setFlag .damaged s) with
              service := { s.service with
                readPointer := ⟨s.service.readPointer.index, 1⟩
                readCopy := some (Vector.replicate 16 0#8) } }) ∧
        (hasPlace (setFlag .damaged s).link.queue = false → offerNextPart s = setFlag .damaged s)) ∧
      (∀ bytes, s.service.readPointer.part = 1 → s.service.readCopy = some bytes →
        offerNextPart s =
          { joinQueue (.storeData 1#8 ((bytes.toList.drop 6).take 6)) s with
            service := { s.service with readPointer := ⟨s.service.readPointer.index, 2⟩ } }) ∧
      (∀ bytes, s.service.readPointer.part = 2 → s.service.readCopy = some bytes →
        offerNextPart s =
          { joinQueue (.storeData 2#8 (bytes.toList.drop 12)) s with
            service := { s.service with
              readPointer := ⟨if s.service.readPointer.index < 7935 then s.service.readPointer.index + 1 else 0, 0⟩
              readCopy := none
              outstanding := s.service.outstanding - 1 } })) ∧
    (∀ start, s.replyMayBeOffered = true → s.service.scan = some start →
      (∀ i, start ≤ i → i ≤ 7935 → s.store.changedFlag i = true →
        (∀ j, start ≤ j → j < i → s.store.changedFlag j = false) →
        exec .scanReply s = .next
          { joinQueue (.scanReply 1#8 (BitVec.ofNat 8 (i / 256)) (BitVec.ofNat 8 i)) s with
            service := { s.service with scan := none } }) ∧
      ((∀ i, start ≤ i → i ≤ 7935 → s.store.changedFlag i = false) →
        exec .scanReply s = .next
          { joinQueue (.scanReply 0#8 0#8 0#8) s with service := { s.service with scan := none } })) ∧
    (s.live = true → s.faults.notePending = true → s.faults.retryDue = true →
      (holdsNote s.link.queue = true → exec .faultNoteRetry s = .next
        { s with
          link := { s.link with queue := mergeNote s.link.queue }
          faults := { s.faults with notePending := false, retryDue := false } }) ∧
      (holdsNote s.link.queue = false → hasPlace s.link.queue = true → exec .faultNoteRetry s = .next
        (joinQueue .faultNote { s with faults := { s.faults with notePending := false, retryDue := false } })) ∧
      (holdsNote s.link.queue = false → hasPlace s.link.queue = false → s.faults.has .txOverflow = true →
        exec .faultNoteRetry s = .next { s with faults := { s.faults with retryDue := false } })) ∧
    ((s.replyMayBeOffered = false ∨ s.service.outstanding = 0 ∨ s.service.scan ≠ none) →
      exec .storeData s = .next s) ∧
    ((s.replyMayBeOffered = false ∨ s.service.scan = none) → exec .scanReply s = .next s) ∧
    ((s.faults.notePending = false ∨ s.faults.retryDue = false) → exec .faultNoteRetry s = .next s)

/-! ### The combination store -/

/-- A write offered to the store replaces the waiting entry of its index in place, or joins the tail of a list of
fewer than 8, or is refused with STORE_FULL; the head entry of a list that is not being written starts at once, and
marks its record written, and changed by its source (R36, R41 to R45, R49; the model's choice: log 17). -/
def Obligations.OfferedWritesAreDecidedAgainstTheList : Prop :=
  ∀ (i : Nat) (bytes : EntryBytes) (source : Source) (s : State), s.writeListLaw →
    (∀ before e after, s.store.writes = before ++ e :: after → e.index = i → (before = [] → s.store.stage = none) →
      offerWrite i bytes source s =
        (startWrite { s with store := { s.store with writes := before ++ ⟨i, bytes, source⟩ :: after } }, true)) ∧
    ((∀ e ∈ s.store.waiting, e.index ≠ i) → s.store.writes.length < 8 →
      offerWrite i bytes source s =
        (startWrite { s with store := { s.store with writes := s.store.writes ++ [⟨i, bytes, source⟩] } }, true)) ∧
    ((∀ e ∈ s.store.waiting, e.index ≠ i) → s.store.writes.length = 8 →
      offerWrite i bytes source s = (setFlag .storeFull s, false)) ∧
    (∀ e ws, s.memoryLaw → s.store.stage = none → s.store.writes = e :: ws → s.pins.supplyGood = true → s.live = true →
      ∃ m, startWrite s = { s with store := { s.store with array := m, stage := some .storing } } ∧
        m.read e.index =
          { s.store.array.read e.index with written := true, changed := decide (e.source = .capture) } ∧
        ∀ j, j ≠ e.index → m.read j = s.store.array.read j) ∧
    ((s.store.stage ≠ none ∨ s.store.writes = [] ∨ s.pins.supplyGood = false ∨ s.live = false) → startWrite s = s)

/-- A read of an index answers from its newest entry in the write list, or else from the array: an unwritten record reads
all LEAVE, a written one its bytes where they pass the check, and else all LEAVE with DAMAGED set.
WRITE_VERIFY that reads back the record as meant takes the head entry off the list, leaves a record that passes
its check, and starts the next write; another reading begins the forcing write. FORCING_WRITE_END leaves a record that
fails its check, or what the array then holds, sets DAMAGED and starts the next write. A start that waited for the write
goes on in the same event, with the straps as the reading finds them; a start held at the reset line stays held; neither
starts a write or reports (R34, R35, R36, R37, R38, R40, R45, R46, R47, R48, R219; the model's choices: log 8 and 24 for
the start that goes on, and log 9, 17, 18, 32). -/
def Obligations.WritesEndWithAVerify : Prop :=
  (∀ (i : Nat) (s : State),
    (∀ before w after, s.store.writes = before ++ w :: after → w.index = i → (∀ x ∈ after, x.index ≠ i) →
      s.store.answer i = w.bytes ∧ s.store.readDamaged i = false ∧
        s.store.changedFlag i = decide (w.source = .capture)) ∧
    ((∀ w ∈ s.store.writes, w.index ≠ i) →
      s.store.changedFlag i = (s.store.array.read i).changed ∧
      ((s.store.array.read i).written = false →
        s.store.answer i = Vector.replicate 16 0#8 ∧ s.store.readDamaged i = false) ∧
      ((s.store.array.read i).written = true → (s.store.array.read i).bytes.toList.sum + (s.store.array.read i).check = 0#8 →
        s.store.answer i = (s.store.array.read i).bytes ∧ s.store.readDamaged i = false) ∧
      ((s.store.array.read i).written = true → (s.store.array.read i).bytes.toList.sum + (s.store.array.read i).check ≠ 0#8 →
        s.store.answer i = Vector.replicate 16 0#8 ∧ s.store.readDamaged i = true)) ∧
    readRecord i s = if s.store.readDamaged i = true then setFlag .damaged s else s) ∧
  ∀ (y : Straps) (ys : List Straps) (e : WriteEntry) (ws : List WriteEntry) (s : State), s.store.writes = e :: ws → s.memoryLaw →
    (s.pins.strapsToCome = [] ∧ y = s.pins.straps ∧ ys = [] ∨ s.pins.strapsToCome = y :: ys) →
    (s.store.stage = some .storing →
      ∃ m b, m.read e.index = { s.store.array.read e.index with bytes := e.bytes, check := b } ∧
        e.bytes.toList.sum + b = 0#8 ∧ (∀ j, j ≠ e.index → m.read j = s.store.array.read j) ∧
        (∀ good, (good = none ∨ good = some ⟨e.bytes, b⟩) →
          (s.writeListLaw → s.powered = true → (∀ w ∈ ws, w.index ≠ e.index) →
            ∃ t, exec (.writeVerify good) s = .next t ∧ t.store.answer e.index = e.bytes ∧
              t.store.readDamaged e.index = false) ∧
          (s.live = true → exec (.writeVerify good) s = .next
            (startWrite { s with store := { s.store with array := m, writes := ws, stage := none } })) ∧
          (s.node = .starting .lineHeld → exec (.writeVerify good) s = .next
            { s with store := { s.store with array := m, writes := ws, stage := none } }) ∧
          (s.node = .starting .storeFinishing → ∃ t, exec (.writeVerify good) s = .next t ∧
            t.node = .starting (.ready (configFault y s.block)) ∧ t.straps = y ∧ t.config = configAtStart y s.block ∧
            t.store = { s.store with array := m, writes := ws, stage := none })) ∧
        ∀ x : ArrayBytes, x ≠ ⟨e.bytes, b⟩ → s.powered = true →
          ∃ m', exec (.writeVerify (some x)) s = .next
              { s with store := { s.store with array := m', stage := some .forcing } } ∧
            m'.read e.index = { s.store.array.read e.index with bytes := x.bytes, check := x.check } ∧
            ∀ j, j ≠ e.index → m'.read j = s.store.array.read j) ∧
    (s.store.stage = some .forcing →
      ∀ held : Option ArrayBytes, ∃ m, ∃ x : ArrayBytes,
        (held = none → x.bytes = (s.store.array.read e.index).bytes ∧ x.bytes.toList.sum + x.check ≠ 0#8) ∧
        (∀ h, held = some h → x = h) ∧
        m.read e.index = { s.store.array.read e.index with bytes := x.bytes, check := x.check } ∧
        (∀ j, j ≠ e.index → m.read j = s.store.array.read j) ∧
        (s.writeListLaw → s.powered = true → (∀ w ∈ ws, w.index ≠ e.index) →
          ∃ t, exec (.forcingWriteEnd held) s = .next t ∧
            (x.bytes.toList.sum + x.check = 0#8 →
              t.store.answer e.index = x.bytes ∧ t.store.readDamaged e.index = false) ∧
            (x.bytes.toList.sum + x.check ≠ 0#8 →
              t.store.answer e.index = Vector.replicate 16 0#8 ∧ t.store.readDamaged e.index = true)) ∧
        (s.live = true → exec (.forcingWriteEnd held) s = .next
          (startWrite { setFlag .damaged s with store := { s.store with array := m, writes := ws, stage := none } }) ∧
          (setFlag .damaged s).faults.has .damaged = true) ∧
        (s.node = .starting .lineHeld → exec (.forcingWriteEnd held) s = .next
          { s with store := { s.store with array := m, writes := ws, stage := none } }) ∧
        (s.node = .starting .storeFinishing → ∃ t, exec (.forcingWriteEnd held) s = .next t ∧
          t.node = .starting (.ready (configFault y s.block)) ∧ t.straps = y ∧ t.config = configAtStart y s.block ∧
          t.store = { s.store with array := m, writes := ws, stage := none }))

/-! ### Coils, shoe, and outputs -/

/-- PULSE_EXPIRY releases the coil and lets the stop settle; SETTLE_CHECK ends a move that got there, queues a second
attempt at the tail after a first that did not, and marks the stop STUCK after a second; REST_EXPIRY queues the awaited
move, or checks the sense and ends the move or queues it again; each is followed by the start rule
(R63, R64, R65, R66, R68). -/
def Obligations.MovesGoOnAtTheirTimers : Prop :=
  ∀ (n : StopNo) (s : State), s.node = .running →
    (∀ d k left, (s.sequencer.motions[n]).motion = .pulsing d k left →
      exec (.pulseExpiry n) s = .next (startRule
        { s with sequencer := { s.sequencer with
          motions := put s.sequencer.motions n
            ⟨.settling d k s.config.settleMs, (s.sequencer.motions[n]).stuck⟩ } })) ∧
    (∀ d k left, (s.sequencer.motions[n]).motion = .settling d k left →
      ∃ u, exec (.settleCheck n) s = .next (startRule u) ∧
        u = { s with sequencer := u.sequencer, link := u.link, faults := u.faults } ∧ s.stuckFollows u ∧
        u.sequencer.cutHold = s.sequencer.cutHold ∧ u.sequencer.startWait = s.sequencer.startWait ∧
        ((s.scanner.stops[n]).value = d →
          u.sequencer.motions = put s.sequencer.motions n ⟨.atRest, false⟩ ∧
          u.sequencer.moves = s.sequencer.moves.filter (· != n)) ∧
        ((s.scanner.stops[n]).value ≠ d → k = .first →
          u.sequencer.motions = put s.sequencer.motions n ⟨.queued d .second, (s.sequencer.motions[n]).stuck⟩ ∧
          u.sequencer.moves = s.sequencer.moves.filter (· != n) ++ [n]) ∧
        ((s.scanner.stops[n]).value ≠ d → k = .second →
          u.sequencer.motions = put s.sequencer.motions n ⟨.atRest, true⟩ ∧
          u.sequencer.moves = s.sequencer.moves.filter (· != n))) ∧
    (∀ cut d w left, (s.sequencer.motions[n]).motion = .resting cut d w left →
      ∃ u, exec (.restExpiry n) s = .next (startRule u) ∧
        u = { s with sequencer := u.sequencer, link := u.link, faults := u.faults } ∧ s.stuckFollows u ∧
        u.sequencer.cutHold = s.sequencer.cutHold ∧ u.sequencer.startWait = s.sequencer.startWait ∧
        (∀ e, w = some e →
          u.sequencer.motions = put s.sequencer.motions n ⟨.queued e .first, (s.sequencer.motions[n]).stuck⟩ ∧
          u.sequencer.moves = s.sequencer.moves.filter (· != n) ++ [n]) ∧
        (w = none → (s.scanner.stops[n]).value = d →
          u.sequencer.motions = put s.sequencer.motions n ⟨.atRest, false⟩ ∧
          u.sequencer.moves = s.sequencer.moves.filter (· != n)) ∧
        (w = none → (s.scanner.stops[n]).value ≠ d →
          u.sequencer.motions = put s.sequencer.motions n ⟨.queued d .first, (s.sequencer.motions[n]).stuck⟩ ∧
          u.sequencer.moves = s.sequencer.moves.filter (· != n) ++ [n]))

/-- A later SHOE_SAMPLE of an ACTIVE unit steps the filter, rounds it, takes the position and the target stage with
hysteresis, and moves the displayed stage at once or by the follower; it offers a SHOE exactly where the displayed
stage changed. FOLLOWER_EXPIRY is the sample at which the follower count expires; REFRESH_EXPIRY offers a SHOE and
loads the timer again; a unit that is not ACTIVE takes no sample (R105, R109, R111 to R120, R123, R125; the model's
choice: log 30). -/
def Obligations.SamplesMoveTheShoe : Prop :=
  ∀ (x : Nat) (c : ShoeConfig) (s : State), s.node = .running → x ≤ 1023 →
    (s.shoe.unit ≠ .active →
      exec (.shoeSample x) s = .next s ∧ exec (.followerExpiry x) s = .next s ∧ exec .refreshExpiry s = .next s) ∧
    (s.shoe.unit = .active → s.config.shoe = some c →
      (s.shoe.refresh ≠ none → exec .refreshExpiry s = .next
        (offer (.shoe s.straps.division (lowByte s.shoe.program) (lowByte s.shoe.displayed))
          { s with shoe := { s.shoe with refresh := some 500 } }).1) ∧
      (s.shoe.firstDone = false → exec (.shoeSample x) s = .next
        (offer (.shoe s.straps.division (lowByte s.shoe.program) (lowByte (c.reachedStage (c.normalized x))))
          { s with shoe := { s.shoe with
            filter := some (16 * x), reading := some x, position := some (c.normalized x),
            target := c.reachedStage (c.normalized x), displayed := c.reachedStage (c.normalized x),
            firstDone := true, follower := none, refresh := some 500 } }).1) ∧
      (∀ F, s.shoe.firstDone = true → s.shoe.filter = some F → F ≤ 16368 →
        ∃ sh, ∃ F' : Nat, ∃ D step : Int, F' ≤ 16368 ∧ D = 16 * (x : Int) - F ∧ (F' : Int) = F + step ∧
          (step = D.tdiv (2 ^ c.filter) ∨
            (D.tdiv (2 ^ c.filter) = 0 ∧ ((0 < D ∧ step = 1) ∨ (D < 0 ∧ step = -1)))) ∧
          (D ≠ 0 → step ≠ 0) ∧
          sh = { s.shoe with
            filter := some F'
            reading := some ((F' + 8) / 16)
            position := some (c.normalized ((F' + 8) / 16))
            target := c.newTargetStage s.shoe.target (c.normalized ((F' + 8) / 16))
            displayed := sh.displayed
            follower := sh.follower } ∧
          (c.follower = 0 → sh.displayed = sh.target ∧ sh.follower = none) ∧
          (0 < c.follower → s.shoe.displayed = sh.target →
            sh.displayed = s.shoe.displayed ∧ sh.follower = none) ∧
          (0 < c.follower → s.shoe.displayed ≠ sh.target → s.shoe.follower = none →
            sh.displayed = s.shoe.displayed ∧ sh.follower = some c.follower) ∧
          (∀ k, 0 < c.follower → s.shoe.displayed ≠ sh.target → s.shoe.follower = some k → 1 < k →
            sh.displayed = s.shoe.displayed ∧ sh.follower = some (k - 1)) ∧
          (∀ k, 0 < c.follower → s.shoe.displayed ≠ sh.target → s.shoe.follower = some k → k ≤ 1 →
            sh.displayed = (if s.shoe.displayed < sh.target then s.shoe.displayed + 1 else s.shoe.displayed - 1) ∧
            sh.follower = (if sh.displayed = sh.target then none else some c.follower) ∧
            exec (.followerExpiry x) s = exec (.shoeSample x) s) ∧
          (sh.displayed = s.shoe.displayed → exec (.shoeSample x) s = .next { s with shoe := sh }) ∧
          (sh.displayed ≠ s.shoe.displayed → exec (.shoeSample x) s = .next
            (offer (.shoe s.straps.division (lowByte s.shoe.program) (lowByte sh.displayed)) { s with shoe := sh }).1)))

/-- The position is the distance into the travel, by the wiring, scaled to 0 to 1023; the stage it reaches is the highest
whose threshold it meets; the target rises at once to that stage and falls only to the highest stage whose threshold, less
the hysteresis, it meets. A calibration passes where heel and toe are 64 apart or more and the span is 32 or more
(R108, R113 to R117). -/
def Obligations.StagesFollowThePosition : Prop :=
  (∀ c : ShoeConfig, c.calibrated = true ↔
    64 ≤ ((c.toe : Int) - c.heel).natAbs ∧
      (c.heel < c.toe → 32 ≤ (c.toe : Int) - c.heel - c.heelBand - c.toeBand) ∧
      (c.toe ≤ c.heel → 32 ≤ (c.heel : Int) - c.toe - c.heelBand - c.toeBand)) ∧
  ∀ (c : ShoeConfig) (f p held : Nat), c.calibrated = true → c.heel ≤ 1023 → c.toe ≤ 1023 →
    ∃ span away : Int,
      (c.heel < c.toe → span = c.toe - c.heel - c.heelBand - c.toeBand ∧ away = f - c.heel - c.heelBand) ∧
      (c.toe < c.heel → span = c.heel - c.toe - c.heelBand - c.toeBand ∧ away = c.heel - f - c.heelBand) ∧
      32 ≤ span ∧
      (away ≤ 0 → c.normalized f = 0) ∧
      (span ≤ away → c.normalized f = 1023) ∧
      (0 ≤ away → away ≤ span → (c.normalized f : Int) * span ≤ away * 1023 ∧
        away * 1023 < ((c.normalized f : Int) + 1) * span) ∧
      c.reachedStage p ≤ c.stages ∧
      (c.reachedStage p = 0 ∨ c.reachedStage p * 1024 / (c.stages + 1) ≤ p) ∧
      (∀ k, c.reachedStage p < k → k ≤ c.stages → p < k * 1024 / (c.stages + 1)) ∧
      (held < c.reachedStage p → c.newTargetStage held p = c.reachedStage p) ∧
      (c.reachedStage p ≤ held →
        c.newTargetStage held p ≤ held ∧
        (c.newTargetStage held p = 0 ∨
          c.newTargetStage held p * 1024 / (c.stages + 1) ≤ p + c.hysteresis) ∧
        ∀ k, c.newTargetStage held p < k → k ≤ held → p + c.hysteresis < k * 1024 / (c.stages + 1))

/-- SHIFT_END latches the shift copy and begins a new shift of the present speaking set where the chain is dirty.
BLINK_PHASE of a piston lamp goes on to the next phase and ends the blink after the last, BLINK_END ends it; the
service lamp's blink in HAND_ONLY goes on without end. FAULT_PULSE_END stops the pulse timer, and in PULSE mode the
fault line goes inactive (R84, R93, R190, R192, R198; the model's choice: log 31). -/
def Obligations.OutputEventsChangeTheirOutput : Prop :=
  ∀ s : State,
    (∀ copy, s.live = true → s.outputs.shift = some copy →
      (s.outputs.dirty = false → exec .shiftEnd s = .next
        { s with outputs := { s.outputs with latched := copy, shift := none } }) ∧
      (s.outputs.dirty = true → exec .shiftEnd s = .next
        { s with outputs := { s.outputs with latched := copy, dirty := false, shift := some s.resolver.speaking } })) ∧
    (∀ i : Fin 16, s.node = .running →
      (∀ kind k left, (s.outputs.lamps[i]).blink = some ⟨kind, k, left⟩ →
        ∃ t, exec (.blinkPhase (.piston i)) s = .next t ∧
          t = { s with outputs := { s.outputs with
            lamps := put s.outputs.lamps i
              ⟨(s.outputs.lamps[i]).steady,
                if k ≤ 1 then none else some ⟨kind, k - 1, match kind with
                  | .slow => 500
                  | .fast => 125⟩⟩ } } ∧
          (k ≤ 1 → (t.outputs.lamps[i]).lit = (s.outputs.lamps[i]).steady) ∧
          (1 < k → (t.outputs.lamps[i]).lit = !(s.outputs.lamps[i]).lit)) ∧
      exec (.blinkEnd i) s = .next
        { s with outputs := { s.outputs with
          lamps := put s.outputs.lamps i ⟨(s.outputs.lamps[i]).steady, none⟩ } }) ∧
    (∀ lit left, s.node = .handOnly → s.outputs.serviceBlink = some (lit, left) →
      exec (.blinkPhase .service) s = .next { s with outputs := { s.outputs with serviceBlink := some (!lit, 500) } }) ∧
    (∃ t, exec .faultPulseEnd s = .next t ∧ t = { s with faults := { s.faults with pulse := none } } ∧
      (s.node = .running → s.config.pulseLine = true → t.faultLine = false))
end

