-- ==== Sys2Proof/Laws/State.lean ====
section
/-! SUPPORT. What each plain update of the state leaves as it was: one lemma for each field, true by unfolding. -/

namespace Sys2Proof.Machine

@[simp] theorem withLine_node (l : Line) (s : State) : (withLine l s).node = s.node := rfl
@[simp] theorem withLine_pins (l : Line) (s : State) : (withLine l s).pins = s.pins := rfl
@[simp] theorem withLine_straps (l : Line) (s : State) : (withLine l s).straps = s.straps := rfl
@[simp] theorem withLine_config (l : Line) (s : State) : (withLine l s).config = s.config := rfl
@[simp] theorem withLine_block (l : Line) (s : State) : (withLine l s).block = s.block := rfl
@[simp] theorem withLine_blockWrite (l : Line) (s : State) : (withLine l s).blockWrite = s.blockWrite := rfl
@[simp] theorem withLine_store (l : Line) (s : State) : (withLine l s).store = s.store := rfl
@[simp] theorem withLine_scanner (l : Line) (s : State) : (withLine l s).scanner = s.scanner := rfl
@[simp] theorem withLine_resolver (l : Line) (s : State) : (withLine l s).resolver = s.resolver := rfl
@[simp] theorem withLine_sequencer (l : Line) (s : State) : (withLine l s).sequencer = s.sequencer := rfl
@[simp] theorem withLine_outputs (l : Line) (s : State) : (withLine l s).outputs = s.outputs := rfl
@[simp] theorem withLine_faults (l : Line) (s : State) : (withLine l s).faults = s.faults := rfl
@[simp] theorem withLine_service (l : Line) (s : State) : (withLine l s).service = s.service := rfl
@[simp] theorem withLine_shoe (l : Line) (s : State) : (withLine l s).shoe = s.shoe := rfl
@[simp] theorem withLine_freeNext (l : Line) (s : State) : (withLine l s).freeNext = s.freeNext := rfl
@[simp] theorem withLine_pending (l : Line) (s : State) : (withLine l s).pending = s.pending := rfl

@[simp] theorem setNotePending_node (p : Bool) (s : State) : (setNotePending p s).node = s.node := rfl
@[simp] theorem setNotePending_pins (p : Bool) (s : State) : (setNotePending p s).pins = s.pins := rfl
@[simp] theorem setNotePending_straps (p : Bool) (s : State) : (setNotePending p s).straps = s.straps := rfl
@[simp] theorem setNotePending_config (p : Bool) (s : State) : (setNotePending p s).config = s.config := rfl
@[simp] theorem setNotePending_block (p : Bool) (s : State) : (setNotePending p s).block = s.block := rfl
@[simp] theorem setNotePending_blockWrite (p : Bool) (s : State) : (setNotePending p s).blockWrite = s.blockWrite := rfl
@[simp] theorem setNotePending_store (p : Bool) (s : State) : (setNotePending p s).store = s.store := rfl
@[simp] theorem setNotePending_scanner (p : Bool) (s : State) : (setNotePending p s).scanner = s.scanner := rfl
@[simp] theorem setNotePending_resolver (p : Bool) (s : State) : (setNotePending p s).resolver = s.resolver := rfl
@[simp] theorem setNotePending_sequencer (p : Bool) (s : State) : (setNotePending p s).sequencer = s.sequencer := rfl
@[simp] theorem setNotePending_link (p : Bool) (s : State) : (setNotePending p s).link = s.link := rfl
@[simp] theorem setNotePending_outputs (p : Bool) (s : State) : (setNotePending p s).outputs = s.outputs := rfl
@[simp] theorem setNotePending_service (p : Bool) (s : State) : (setNotePending p s).service = s.service := rfl
@[simp] theorem setNotePending_shoe (p : Bool) (s : State) : (setNotePending p s).shoe = s.shoe := rfl
@[simp] theorem setNotePending_freeNext (p : Bool) (s : State) : (setNotePending p s).freeNext = s.freeNext := rfl
@[simp] theorem setNotePending_pending (p : Bool) (s : State) : (setNotePending p s).pending = s.pending := rfl

@[simp] theorem raiseFlag_node (f : Flag) (s : State) : (raiseFlag f s).node = s.node := rfl
@[simp] theorem raiseFlag_pins (f : Flag) (s : State) : (raiseFlag f s).pins = s.pins := rfl
@[simp] theorem raiseFlag_straps (f : Flag) (s : State) : (raiseFlag f s).straps = s.straps := rfl
@[simp] theorem raiseFlag_config (f : Flag) (s : State) : (raiseFlag f s).config = s.config := rfl
@[simp] theorem raiseFlag_block (f : Flag) (s : State) : (raiseFlag f s).block = s.block := rfl
@[simp] theorem raiseFlag_blockWrite (f : Flag) (s : State) : (raiseFlag f s).blockWrite = s.blockWrite := rfl
@[simp] theorem raiseFlag_store (f : Flag) (s : State) : (raiseFlag f s).store = s.store := rfl
@[simp] theorem raiseFlag_scanner (f : Flag) (s : State) : (raiseFlag f s).scanner = s.scanner := rfl
@[simp] theorem raiseFlag_resolver (f : Flag) (s : State) : (raiseFlag f s).resolver = s.resolver := rfl
@[simp] theorem raiseFlag_sequencer (f : Flag) (s : State) : (raiseFlag f s).sequencer = s.sequencer := rfl
@[simp] theorem raiseFlag_link (f : Flag) (s : State) : (raiseFlag f s).link = s.link := rfl
@[simp] theorem raiseFlag_outputs (f : Flag) (s : State) : (raiseFlag f s).outputs = s.outputs := rfl
@[simp] theorem raiseFlag_service (f : Flag) (s : State) : (raiseFlag f s).service = s.service := rfl
@[simp] theorem raiseFlag_shoe (f : Flag) (s : State) : (raiseFlag f s).shoe = s.shoe := rfl
@[simp] theorem raiseFlag_freeNext (f : Flag) (s : State) : (raiseFlag f s).freeNext = s.freeNext := rfl
@[simp] theorem raiseFlag_pending (f : Flag) (s : State) : (raiseFlag f s).pending = s.pending := rfl

@[simp] theorem clearFlag_node (f : Flag) (s : State) : (clearFlag f s).node = s.node := rfl
@[simp] theorem clearFlag_pins (f : Flag) (s : State) : (clearFlag f s).pins = s.pins := rfl
@[simp] theorem clearFlag_straps (f : Flag) (s : State) : (clearFlag f s).straps = s.straps := rfl
@[simp] theorem clearFlag_config (f : Flag) (s : State) : (clearFlag f s).config = s.config := rfl
@[simp] theorem clearFlag_block (f : Flag) (s : State) : (clearFlag f s).block = s.block := rfl
@[simp] theorem clearFlag_blockWrite (f : Flag) (s : State) : (clearFlag f s).blockWrite = s.blockWrite := rfl
@[simp] theorem clearFlag_store (f : Flag) (s : State) : (clearFlag f s).store = s.store := rfl
@[simp] theorem clearFlag_scanner (f : Flag) (s : State) : (clearFlag f s).scanner = s.scanner := rfl
@[simp] theorem clearFlag_resolver (f : Flag) (s : State) : (clearFlag f s).resolver = s.resolver := rfl
@[simp] theorem clearFlag_sequencer (f : Flag) (s : State) : (clearFlag f s).sequencer = s.sequencer := rfl
@[simp] theorem clearFlag_link (f : Flag) (s : State) : (clearFlag f s).link = s.link := rfl
@[simp] theorem clearFlag_outputs (f : Flag) (s : State) : (clearFlag f s).outputs = s.outputs := rfl
@[simp] theorem clearFlag_service (f : Flag) (s : State) : (clearFlag f s).service = s.service := rfl
@[simp] theorem clearFlag_shoe (f : Flag) (s : State) : (clearFlag f s).shoe = s.shoe := rfl
@[simp] theorem clearFlag_freeNext (f : Flag) (s : State) : (clearFlag f s).freeNext = s.freeNext := rfl
@[simp] theorem clearFlag_pending (f : Flag) (s : State) : (clearFlag f s).pending = s.pending := rfl

@[simp] theorem advanceSerial_node (s : State) : (advanceSerial s).node = s.node := rfl
@[simp] theorem advanceSerial_pins (s : State) : (advanceSerial s).pins = s.pins := rfl
@[simp] theorem advanceSerial_straps (s : State) : (advanceSerial s).straps = s.straps := rfl
@[simp] theorem advanceSerial_config (s : State) : (advanceSerial s).config = s.config := rfl
@[simp] theorem advanceSerial_block (s : State) : (advanceSerial s).block = s.block := rfl
@[simp] theorem advanceSerial_blockWrite (s : State) : (advanceSerial s).blockWrite = s.blockWrite := rfl
@[simp] theorem advanceSerial_store (s : State) : (advanceSerial s).store = s.store := rfl
@[simp] theorem advanceSerial_scanner (s : State) : (advanceSerial s).scanner = s.scanner := rfl
@[simp] theorem advanceSerial_sequencer (s : State) : (advanceSerial s).sequencer = s.sequencer := rfl
@[simp] theorem advanceSerial_link (s : State) : (advanceSerial s).link = s.link := rfl
@[simp] theorem advanceSerial_outputs (s : State) : (advanceSerial s).outputs = s.outputs := rfl
@[simp] theorem advanceSerial_faults (s : State) : (advanceSerial s).faults = s.faults := rfl
@[simp] theorem advanceSerial_service (s : State) : (advanceSerial s).service = s.service := rfl
@[simp] theorem advanceSerial_shoe (s : State) : (advanceSerial s).shoe = s.shoe := rfl
@[simp] theorem advanceSerial_freeNext (s : State) : (advanceSerial s).freeNext = s.freeNext := rfl
@[simp] theorem advanceSerial_pending (s : State) : (advanceSerial s).pending = s.pending := rfl

@[simp] theorem debounced_node (s : State) (c : Contact) : (s.debounced c).node = s.node := rfl
@[simp] theorem debounced_pins (s : State) (c : Contact) : (s.debounced c).pins = s.pins := rfl
@[simp] theorem debounced_straps (s : State) (c : Contact) : (s.debounced c).straps = s.straps := rfl
@[simp] theorem debounced_config (s : State) (c : Contact) : (s.debounced c).config = s.config := rfl
@[simp] theorem debounced_block (s : State) (c : Contact) : (s.debounced c).block = s.block := rfl
@[simp] theorem debounced_blockWrite (s : State) (c : Contact) : (s.debounced c).blockWrite = s.blockWrite := rfl
@[simp] theorem debounced_store (s : State) (c : Contact) : (s.debounced c).store = s.store := rfl
@[simp] theorem debounced_resolver (s : State) (c : Contact) : (s.debounced c).resolver = s.resolver := rfl
@[simp] theorem debounced_sequencer (s : State) (c : Contact) : (s.debounced c).sequencer = s.sequencer := rfl
@[simp] theorem debounced_link (s : State) (c : Contact) : (s.debounced c).link = s.link := rfl
@[simp] theorem debounced_outputs (s : State) (c : Contact) : (s.debounced c).outputs = s.outputs := rfl
@[simp] theorem debounced_faults (s : State) (c : Contact) : (s.debounced c).faults = s.faults := rfl
@[simp] theorem debounced_service (s : State) (c : Contact) : (s.debounced c).service = s.service := rfl
@[simp] theorem debounced_shoe (s : State) (c : Contact) : (s.debounced c).shoe = s.shoe := rfl
@[simp] theorem debounced_freeNext (s : State) (c : Contact) : (s.debounced c).freeNext = s.freeNext := rfl
@[simp] theorem debounced_pending (s : State) (c : Contact) : (s.debounced c).pending = s.pending := rfl

@[simp] theorem refreshLamps_node (s : State) : (refreshLamps s).node = s.node := by unfold refreshLamps; rfl
@[simp] theorem refreshLamps_pins (s : State) : (refreshLamps s).pins = s.pins := by unfold refreshLamps; rfl
@[simp] theorem refreshLamps_straps (s : State) : (refreshLamps s).straps = s.straps := by unfold refreshLamps; rfl
@[simp] theorem refreshLamps_config (s : State) : (refreshLamps s).config = s.config := by unfold refreshLamps; rfl
@[simp] theorem refreshLamps_block (s : State) : (refreshLamps s).block = s.block := by unfold refreshLamps; rfl
@[simp] theorem refreshLamps_blockWrite (s : State) : (refreshLamps s).blockWrite = s.blockWrite := by unfold refreshLamps; rfl
@[simp] theorem refreshLamps_store (s : State) : (refreshLamps s).store = s.store := by unfold refreshLamps; rfl
@[simp] theorem refreshLamps_scanner (s : State) : (refreshLamps s).scanner = s.scanner := by unfold refreshLamps; rfl
@[simp] theorem refreshLamps_resolver (s : State) : (refreshLamps s).resolver = s.resolver := by unfold refreshLamps; rfl
@[simp] theorem refreshLamps_sequencer (s : State) : (refreshLamps s).sequencer = s.sequencer := by unfold refreshLamps; rfl
@[simp] theorem refreshLamps_link (s : State) : (refreshLamps s).link = s.link := by unfold refreshLamps; rfl
@[simp] theorem refreshLamps_faults (s : State) : (refreshLamps s).faults = s.faults := by unfold refreshLamps; rfl
@[simp] theorem refreshLamps_service (s : State) : (refreshLamps s).service = s.service := by unfold refreshLamps; rfl
@[simp] theorem refreshLamps_shoe (s : State) : (refreshLamps s).shoe = s.shoe := by unfold refreshLamps; rfl
@[simp] theorem refreshLamps_freeNext (s : State) : (refreshLamps s).freeNext = s.freeNext := by unfold refreshLamps; rfl
@[simp] theorem refreshLamps_pending (s : State) : (refreshLamps s).pending = s.pending := by unfold refreshLamps; rfl

@[simp] theorem blinkPiston_node (k : BlinkKind) (p : Piston) (s : State) : (blinkPiston k p s).node = s.node := by unfold blinkPiston; rfl
@[simp] theorem blinkPiston_pins (k : BlinkKind) (p : Piston) (s : State) : (blinkPiston k p s).pins = s.pins := by unfold blinkPiston; rfl
@[simp] theorem blinkPiston_straps (k : BlinkKind) (p : Piston) (s : State) : (blinkPiston k p s).straps = s.straps := by unfold blinkPiston; rfl
@[simp] theorem blinkPiston_config (k : BlinkKind) (p : Piston) (s : State) : (blinkPiston k p s).config = s.config := by unfold blinkPiston; rfl
@[simp] theorem blinkPiston_block (k : BlinkKind) (p : Piston) (s : State) : (blinkPiston k p s).block = s.block := by unfold blinkPiston; rfl
@[simp] theorem blinkPiston_blockWrite (k : BlinkKind) (p : Piston) (s : State) : (blinkPiston k p s).blockWrite = s.blockWrite := by unfold blinkPiston; rfl
@[simp] theorem blinkPiston_store (k : BlinkKind) (p : Piston) (s : State) : (blinkPiston k p s).store = s.store := by unfold blinkPiston; rfl
@[simp] theorem blinkPiston_scanner (k : BlinkKind) (p : Piston) (s : State) : (blinkPiston k p s).scanner = s.scanner := by unfold blinkPiston; rfl
@[simp] theorem blinkPiston_resolver (k : BlinkKind) (p : Piston) (s : State) : (blinkPiston k p s).resolver = s.resolver := by unfold blinkPiston; rfl
@[simp] theorem blinkPiston_sequencer (k : BlinkKind) (p : Piston) (s : State) : (blinkPiston k p s).sequencer = s.sequencer := by unfold blinkPiston; rfl
@[simp] theorem blinkPiston_link (k : BlinkKind) (p : Piston) (s : State) : (blinkPiston k p s).link = s.link := by unfold blinkPiston; rfl
@[simp] theorem blinkPiston_faults (k : BlinkKind) (p : Piston) (s : State) : (blinkPiston k p s).faults = s.faults := by unfold blinkPiston; rfl
@[simp] theorem blinkPiston_service (k : BlinkKind) (p : Piston) (s : State) : (blinkPiston k p s).service = s.service := by unfold blinkPiston; rfl
@[simp] theorem blinkPiston_shoe (k : BlinkKind) (p : Piston) (s : State) : (blinkPiston k p s).shoe = s.shoe := by unfold blinkPiston; rfl
@[simp] theorem blinkPiston_freeNext (k : BlinkKind) (p : Piston) (s : State) : (blinkPiston k p s).freeNext = s.freeNext := by unfold blinkPiston; rfl
@[simp] theorem blinkPiston_pending (k : BlinkKind) (p : Piston) (s : State) : (blinkPiston k p s).pending = s.pending := by unfold blinkPiston; rfl

@[simp] theorem setGeneral_node (r : Reference) (l : Byte) (s : State) : (setGeneral r l s).node = s.node := rfl
@[simp] theorem setGeneral_pins (r : Reference) (l : Byte) (s : State) : (setGeneral r l s).pins = s.pins := rfl
@[simp] theorem setGeneral_straps (r : Reference) (l : Byte) (s : State) : (setGeneral r l s).straps = s.straps := rfl
@[simp] theorem setGeneral_config (r : Reference) (l : Byte) (s : State) : (setGeneral r l s).config = s.config := rfl
@[simp] theorem setGeneral_block (r : Reference) (l : Byte) (s : State) : (setGeneral r l s).block = s.block := rfl
@[simp] theorem setGeneral_blockWrite (r : Reference) (l : Byte) (s : State) : (setGeneral r l s).blockWrite = s.blockWrite := rfl
@[simp] theorem setGeneral_store (r : Reference) (l : Byte) (s : State) : (setGeneral r l s).store = s.store := rfl
@[simp] theorem setGeneral_scanner (r : Reference) (l : Byte) (s : State) : (setGeneral r l s).scanner = s.scanner := rfl
@[simp] theorem setGeneral_sequencer (r : Reference) (l : Byte) (s : State) : (setGeneral r l s).sequencer = s.sequencer := rfl
@[simp] theorem setGeneral_link (r : Reference) (l : Byte) (s : State) : (setGeneral r l s).link = s.link := rfl
@[simp] theorem setGeneral_outputs (r : Reference) (l : Byte) (s : State) : (setGeneral r l s).outputs = s.outputs := rfl
@[simp] theorem setGeneral_faults (r : Reference) (l : Byte) (s : State) : (setGeneral r l s).faults = s.faults := rfl
@[simp] theorem setGeneral_service (r : Reference) (l : Byte) (s : State) : (setGeneral r l s).service = s.service := rfl
@[simp] theorem setGeneral_shoe (r : Reference) (l : Byte) (s : State) : (setGeneral r l s).shoe = s.shoe := rfl
@[simp] theorem setGeneral_freeNext (r : Reference) (l : Byte) (s : State) : (setGeneral r l s).freeNext = s.freeNext := rfl
@[simp] theorem setGeneral_pending (r : Reference) (l : Byte) (s : State) : (setGeneral r l s).pending = s.pending := rfl

@[simp] theorem setDivisional_node (r : Reference) (s : State) : (setDivisional r s).node = s.node := rfl
@[simp] theorem setDivisional_pins (r : Reference) (s : State) : (setDivisional r s).pins = s.pins := rfl
@[simp] theorem setDivisional_straps (r : Reference) (s : State) : (setDivisional r s).straps = s.straps := rfl
@[simp] theorem setDivisional_config (r : Reference) (s : State) : (setDivisional r s).config = s.config := rfl
@[simp] theorem setDivisional_block (r : Reference) (s : State) : (setDivisional r s).block = s.block := rfl
@[simp] theorem setDivisional_blockWrite (r : Reference) (s : State) : (setDivisional r s).blockWrite = s.blockWrite := rfl
@[simp] theorem setDivisional_store (r : Reference) (s : State) : (setDivisional r s).store = s.store := rfl
@[simp] theorem setDivisional_scanner (r : Reference) (s : State) : (setDivisional r s).scanner = s.scanner := rfl
@[simp] theorem setDivisional_sequencer (r : Reference) (s : State) : (setDivisional r s).sequencer = s.sequencer := rfl
@[simp] theorem setDivisional_link (r : Reference) (s : State) : (setDivisional r s).link = s.link := rfl
@[simp] theorem setDivisional_outputs (r : Reference) (s : State) : (setDivisional r s).outputs = s.outputs := rfl
@[simp] theorem setDivisional_faults (r : Reference) (s : State) : (setDivisional r s).faults = s.faults := rfl
@[simp] theorem setDivisional_service (r : Reference) (s : State) : (setDivisional r s).service = s.service := rfl
@[simp] theorem setDivisional_shoe (r : Reference) (s : State) : (setDivisional r s).shoe = s.shoe := rfl
@[simp] theorem setDivisional_freeNext (r : Reference) (s : State) : (setDivisional r s).freeNext = s.freeNext := rfl
@[simp] theorem setDivisional_pending (r : Reference) (s : State) : (setDivisional r s).pending = s.pending := rfl

@[simp] theorem loadTutti_node (l : Nat) (s : State) : (loadTutti l s).node = s.node := by unfold loadTutti; rfl
@[simp] theorem loadTutti_pins (l : Nat) (s : State) : (loadTutti l s).pins = s.pins := by unfold loadTutti; rfl
@[simp] theorem loadTutti_straps (l : Nat) (s : State) : (loadTutti l s).straps = s.straps := by unfold loadTutti; rfl
@[simp] theorem loadTutti_config (l : Nat) (s : State) : (loadTutti l s).config = s.config := by unfold loadTutti; rfl
@[simp] theorem loadTutti_block (l : Nat) (s : State) : (loadTutti l s).block = s.block := by unfold loadTutti; rfl
@[simp] theorem loadTutti_blockWrite (l : Nat) (s : State) : (loadTutti l s).blockWrite = s.blockWrite := by unfold loadTutti; rfl
@[simp] theorem loadTutti_store (l : Nat) (s : State) : (loadTutti l s).store = s.store := by unfold loadTutti; rfl
@[simp] theorem loadTutti_scanner (l : Nat) (s : State) : (loadTutti l s).scanner = s.scanner := by unfold loadTutti; rfl
@[simp] theorem loadTutti_sequencer (l : Nat) (s : State) : (loadTutti l s).sequencer = s.sequencer := by unfold loadTutti; rfl
@[simp] theorem loadTutti_link (l : Nat) (s : State) : (loadTutti l s).link = s.link := by unfold loadTutti; rfl
@[simp] theorem loadTutti_outputs (l : Nat) (s : State) : (loadTutti l s).outputs = s.outputs := by unfold loadTutti; rfl
@[simp] theorem loadTutti_faults (l : Nat) (s : State) : (loadTutti l s).faults = s.faults := by unfold loadTutti; rfl
@[simp] theorem loadTutti_service (l : Nat) (s : State) : (loadTutti l s).service = s.service := by unfold loadTutti; rfl
@[simp] theorem loadTutti_shoe (l : Nat) (s : State) : (loadTutti l s).shoe = s.shoe := by unfold loadTutti; rfl
@[simp] theorem loadTutti_freeNext (l : Nat) (s : State) : (loadTutti l s).freeNext = s.freeNext := by unfold loadTutti; rfl
@[simp] theorem loadTutti_pending (l : Nat) (s : State) : (loadTutti l s).pending = s.pending := by unfold loadTutti; rfl

@[simp] theorem loadStage_node (p k : Nat) (s : State) : (loadStage p k s).node = s.node := by unfold loadStage; rfl
@[simp] theorem loadStage_pins (p k : Nat) (s : State) : (loadStage p k s).pins = s.pins := by unfold loadStage; rfl
@[simp] theorem loadStage_straps (p k : Nat) (s : State) : (loadStage p k s).straps = s.straps := by unfold loadStage; rfl
@[simp] theorem loadStage_config (p k : Nat) (s : State) : (loadStage p k s).config = s.config := by unfold loadStage; rfl
@[simp] theorem loadStage_block (p k : Nat) (s : State) : (loadStage p k s).block = s.block := by unfold loadStage; rfl
@[simp] theorem loadStage_blockWrite (p k : Nat) (s : State) : (loadStage p k s).blockWrite = s.blockWrite := by unfold loadStage; rfl
@[simp] theorem loadStage_store (p k : Nat) (s : State) : (loadStage p k s).store = s.store := by unfold loadStage; rfl
@[simp] theorem loadStage_scanner (p k : Nat) (s : State) : (loadStage p k s).scanner = s.scanner := by unfold loadStage; rfl
@[simp] theorem loadStage_sequencer (p k : Nat) (s : State) : (loadStage p k s).sequencer = s.sequencer := by unfold loadStage; rfl
@[simp] theorem loadStage_link (p k : Nat) (s : State) : (loadStage p k s).link = s.link := by unfold loadStage; rfl
@[simp] theorem loadStage_outputs (p k : Nat) (s : State) : (loadStage p k s).outputs = s.outputs := by unfold loadStage; rfl
@[simp] theorem loadStage_faults (p k : Nat) (s : State) : (loadStage p k s).faults = s.faults := by unfold loadStage; rfl
@[simp] theorem loadStage_service (p k : Nat) (s : State) : (loadStage p k s).service = s.service := by unfold loadStage; rfl
@[simp] theorem loadStage_shoe (p k : Nat) (s : State) : (loadStage p k s).shoe = s.shoe := by unfold loadStage; rfl
@[simp] theorem loadStage_freeNext (p k : Nat) (s : State) : (loadStage p k s).freeNext = s.freeNext := by unfold loadStage; rfl
@[simp] theorem loadStage_pending (p k : Nat) (s : State) : (loadStage p k s).pending = s.pending := by unfold loadStage; rfl

@[simp] theorem tuttiGoesOff_node (s : State) : (tuttiGoesOff s).node = s.node := rfl
@[simp] theorem tuttiGoesOff_pins (s : State) : (tuttiGoesOff s).pins = s.pins := rfl
@[simp] theorem tuttiGoesOff_straps (s : State) : (tuttiGoesOff s).straps = s.straps := rfl
@[simp] theorem tuttiGoesOff_config (s : State) : (tuttiGoesOff s).config = s.config := rfl
@[simp] theorem tuttiGoesOff_block (s : State) : (tuttiGoesOff s).block = s.block := rfl
@[simp] theorem tuttiGoesOff_blockWrite (s : State) : (tuttiGoesOff s).blockWrite = s.blockWrite := rfl
@[simp] theorem tuttiGoesOff_store (s : State) : (tuttiGoesOff s).store = s.store := rfl
@[simp] theorem tuttiGoesOff_scanner (s : State) : (tuttiGoesOff s).scanner = s.scanner := rfl
@[simp] theorem tuttiGoesOff_sequencer (s : State) : (tuttiGoesOff s).sequencer = s.sequencer := rfl
@[simp] theorem tuttiGoesOff_link (s : State) : (tuttiGoesOff s).link = s.link := rfl
@[simp] theorem tuttiGoesOff_outputs (s : State) : (tuttiGoesOff s).outputs = s.outputs := rfl
@[simp] theorem tuttiGoesOff_faults (s : State) : (tuttiGoesOff s).faults = s.faults := rfl
@[simp] theorem tuttiGoesOff_service (s : State) : (tuttiGoesOff s).service = s.service := rfl
@[simp] theorem tuttiGoesOff_shoe (s : State) : (tuttiGoesOff s).shoe = s.shoe := rfl
@[simp] theorem tuttiGoesOff_freeNext (s : State) : (tuttiGoesOff s).freeNext = s.freeNext := rfl
@[simp] theorem tuttiGoesOff_pending (s : State) : (tuttiGoesOff s).pending = s.pending := rfl

@[simp] theorem clearReferences_node (s : State) : (clearReferences s).node = s.node := rfl
@[simp] theorem clearReferences_pins (s : State) : (clearReferences s).pins = s.pins := rfl
@[simp] theorem clearReferences_straps (s : State) : (clearReferences s).straps = s.straps := rfl
@[simp] theorem clearReferences_config (s : State) : (clearReferences s).config = s.config := rfl
@[simp] theorem clearReferences_block (s : State) : (clearReferences s).block = s.block := rfl
@[simp] theorem clearReferences_blockWrite (s : State) : (clearReferences s).blockWrite = s.blockWrite := rfl
@[simp] theorem clearReferences_store (s : State) : (clearReferences s).store = s.store := rfl
@[simp] theorem clearReferences_scanner (s : State) : (clearReferences s).scanner = s.scanner := rfl
@[simp] theorem clearReferences_sequencer (s : State) : (clearReferences s).sequencer = s.sequencer := rfl
@[simp] theorem clearReferences_link (s : State) : (clearReferences s).link = s.link := rfl
@[simp] theorem clearReferences_outputs (s : State) : (clearReferences s).outputs = s.outputs := rfl
@[simp] theorem clearReferences_faults (s : State) : (clearReferences s).faults = s.faults := rfl
@[simp] theorem clearReferences_service (s : State) : (clearReferences s).service = s.service := rfl
@[simp] theorem clearReferences_shoe (s : State) : (clearReferences s).shoe = s.shoe := rfl
@[simp] theorem clearReferences_freeNext (s : State) : (clearReferences s).freeNext = s.freeNext := rfl
@[simp] theorem clearReferences_pending (s : State) : (clearReferences s).pending = s.pending := rfl

@[simp] theorem loadDrawn_node (s : State) : (loadDrawn s).node = s.node := by unfold loadDrawn; rfl
@[simp] theorem loadDrawn_pins (s : State) : (loadDrawn s).pins = s.pins := by unfold loadDrawn; rfl
@[simp] theorem loadDrawn_straps (s : State) : (loadDrawn s).straps = s.straps := by unfold loadDrawn; rfl
@[simp] theorem loadDrawn_config (s : State) : (loadDrawn s).config = s.config := by unfold loadDrawn; rfl
@[simp] theorem loadDrawn_block (s : State) : (loadDrawn s).block = s.block := by unfold loadDrawn; rfl
@[simp] theorem loadDrawn_blockWrite (s : State) : (loadDrawn s).blockWrite = s.blockWrite := by unfold loadDrawn; rfl
@[simp] theorem loadDrawn_store (s : State) : (loadDrawn s).store = s.store := by unfold loadDrawn; rfl
@[simp] theorem loadDrawn_scanner (s : State) : (loadDrawn s).scanner = s.scanner := by unfold loadDrawn; rfl
@[simp] theorem loadDrawn_sequencer (s : State) : (loadDrawn s).sequencer = s.sequencer := by unfold loadDrawn; rfl
@[simp] theorem loadDrawn_link (s : State) : (loadDrawn s).link = s.link := by unfold loadDrawn; rfl
@[simp] theorem loadDrawn_outputs (s : State) : (loadDrawn s).outputs = s.outputs := by unfold loadDrawn; rfl
@[simp] theorem loadDrawn_faults (s : State) : (loadDrawn s).faults = s.faults := by unfold loadDrawn; rfl
@[simp] theorem loadDrawn_service (s : State) : (loadDrawn s).service = s.service := by unfold loadDrawn; rfl
@[simp] theorem loadDrawn_shoe (s : State) : (loadDrawn s).shoe = s.shoe := by unfold loadDrawn; rfl
@[simp] theorem loadDrawn_freeNext (s : State) : (loadDrawn s).freeNext = s.freeNext := by unfold loadDrawn; rfl
@[simp] theorem loadDrawn_pending (s : State) : (loadDrawn s).pending = s.pending := by unfold loadDrawn; rfl

@[simp] theorem startCut_pins (c : StartCause) (s : State) : (startCut c s).pins = s.pins := rfl
@[simp] theorem startCut_straps (c : StartCause) (s : State) : (startCut c s).straps = s.straps := rfl
@[simp] theorem startCut_config (c : StartCause) (s : State) : (startCut c s).config = s.config := rfl
@[simp] theorem startCut_block (c : StartCause) (s : State) : (startCut c s).block = s.block := rfl
@[simp] theorem startCut_blockWrite (c : StartCause) (s : State) : (startCut c s).blockWrite = s.blockWrite := rfl
@[simp] theorem startCut_store (c : StartCause) (s : State) : (startCut c s).store = s.store := rfl
@[simp] theorem startCut_scanner (c : StartCause) (s : State) : (startCut c s).scanner = s.scanner := rfl
@[simp] theorem startCut_service (c : StartCause) (s : State) : (startCut c s).service = s.service := rfl
@[simp] theorem startCut_freeNext (c : StartCause) (s : State) : (startCut c s).freeNext = s.freeNext := rfl
@[simp] theorem startCut_pending (c : StartCause) (s : State) : (startCut c s).pending = s.pending := rfl

@[simp] theorem startLoad_pins (s : State) : (startLoad s).pins = s.pins.afterReading := by unfold startLoad; rfl
@[simp] theorem startLoad_straps (s : State) : (startLoad s).straps = s.pins.strapReading := by unfold startLoad; rfl
@[simp] theorem Pins.afterReading_straps (p : Pins) : p.afterReading.straps = p.strapReading := rfl
@[simp] theorem Pins.afterReading_resetActive (p : Pins) : p.afterReading.resetActive = p.resetActive := rfl
@[simp] theorem Pins.afterReading_supplyGood (p : Pins) : p.afterReading.supplyGood = p.supplyGood := rfl
@[simp] theorem Pins.afterReading_strapsToCome (p : Pins) : p.afterReading.strapsToCome = p.strapsToCome.tail := rfl
@[simp] theorem Pins.strapReading_nil (z : Straps) (r g : Bool) : (Pins.mk z r g []).strapReading = z := rfl
@[simp] theorem Pins.strapReading_cons (z y : Straps) (r g : Bool) (ys : List Straps) :
    (Pins.mk z r g (y :: ys)).strapReading = y := rfl
@[simp] theorem startLoad_block (s : State) : (startLoad s).block = s.block := by unfold startLoad; rfl
@[simp] theorem startLoad_store (s : State) : (startLoad s).store = s.store := by unfold startLoad; rfl
@[simp] theorem startLoad_sequencer (s : State) : (startLoad s).sequencer = s.sequencer := by unfold startLoad; rfl
@[simp] theorem startLoad_link (s : State) : (startLoad s).link = s.link := by unfold startLoad; rfl
@[simp] theorem startLoad_outputs (s : State) : (startLoad s).outputs = s.outputs := by unfold startLoad; rfl
@[simp] theorem startLoad_freeNext (s : State) : (startLoad s).freeNext = s.freeNext := by unfold startLoad; rfl
@[simp] theorem startLoad_pending (s : State) : (startLoad s).pending = s.pending := by unfold startLoad; rfl

@[simp] theorem advance_node (s : State) : (advance s).node = s.node := by unfold advance; rfl
@[simp] theorem advance_pins (s : State) : (advance s).pins = s.pins := by unfold advance; rfl
@[simp] theorem advance_straps (s : State) : (advance s).straps = s.straps := by unfold advance; rfl
@[simp] theorem advance_config (s : State) : (advance s).config = s.config := by unfold advance; rfl
@[simp] theorem advance_block (s : State) : (advance s).block = s.block := by unfold advance; rfl
@[simp] theorem advance_blockWrite (s : State) : (advance s).blockWrite = s.blockWrite := by unfold advance; rfl
@[simp] theorem advance_store (s : State) : (advance s).store = s.store := by unfold advance; rfl
@[simp] theorem advance_link (s : State) : (advance s).link = s.link := by unfold advance; rfl
@[simp] theorem advance_service (s : State) : (advance s).service = s.service := by unfold advance; rfl
@[simp] theorem advance_freeNext (s : State) : (advance s).freeNext = s.freeNext := by unfold advance; rfl
@[simp] theorem advance_pending (s : State) : (advance s).pending = s.pending := by unfold advance; rfl

end Sys2Proof.Machine
end

