-- ==== Sys2Proof/Laws/Frames.lean ====
section
/-! SUPPORT. What each shared operation leaves as it was: one equation for each operation, and one lemma for each field
it does not change. -/

namespace Sys2Proof.Machine

/-- What `startAttempt` may change: link. -/
theorem startAttempt_frame (s : State) :
    startAttempt s = { s with link := (startAttempt s).link } := by
  unfold startAttempt; split <;> try rfl
  split <;> rfl

@[simp] theorem startAttempt_node (s : State) : (startAttempt s).node = s.node := by rw [startAttempt_frame]
@[simp] theorem startAttempt_pins (s : State) : (startAttempt s).pins = s.pins := by rw [startAttempt_frame]
@[simp] theorem startAttempt_straps (s : State) : (startAttempt s).straps = s.straps := by rw [startAttempt_frame]
@[simp] theorem startAttempt_config (s : State) : (startAttempt s).config = s.config := by rw [startAttempt_frame]
@[simp] theorem startAttempt_block (s : State) : (startAttempt s).block = s.block := by rw [startAttempt_frame]
@[simp] theorem startAttempt_blockWrite (s : State) : (startAttempt s).blockWrite = s.blockWrite := by rw [startAttempt_frame]
@[simp] theorem startAttempt_store (s : State) : (startAttempt s).store = s.store := by rw [startAttempt_frame]
@[simp] theorem startAttempt_scanner (s : State) : (startAttempt s).scanner = s.scanner := by rw [startAttempt_frame]
@[simp] theorem startAttempt_resolver (s : State) : (startAttempt s).resolver = s.resolver := by rw [startAttempt_frame]
@[simp] theorem startAttempt_sequencer (s : State) : (startAttempt s).sequencer = s.sequencer := by rw [startAttempt_frame]
@[simp] theorem startAttempt_outputs (s : State) : (startAttempt s).outputs = s.outputs := by rw [startAttempt_frame]
@[simp] theorem startAttempt_faults (s : State) : (startAttempt s).faults = s.faults := by rw [startAttempt_frame]
@[simp] theorem startAttempt_service (s : State) : (startAttempt s).service = s.service := by rw [startAttempt_frame]
@[simp] theorem startAttempt_shoe (s : State) : (startAttempt s).shoe = s.shoe := by rw [startAttempt_frame]
@[simp] theorem startAttempt_freeNext (s : State) : (startAttempt s).freeNext = s.freeNext := by rw [startAttempt_frame]
@[simp] theorem startAttempt_pending (s : State) : (startAttempt s).pending = s.pending := by rw [startAttempt_frame]

/-- What `joinQueue` may change: link. -/
theorem joinQueue_frame (b : Body) (s : State) :
    joinQueue b s = { s with link := (joinQueue b s).link } := by
  unfold joinQueue; rw [startAttempt_frame]

@[simp] theorem joinQueue_node (b : Body) (s : State) : (joinQueue b s).node = s.node := by rw [joinQueue_frame]
@[simp] theorem joinQueue_pins (b : Body) (s : State) : (joinQueue b s).pins = s.pins := by rw [joinQueue_frame]
@[simp] theorem joinQueue_straps (b : Body) (s : State) : (joinQueue b s).straps = s.straps := by rw [joinQueue_frame]
@[simp] theorem joinQueue_config (b : Body) (s : State) : (joinQueue b s).config = s.config := by rw [joinQueue_frame]
@[simp] theorem joinQueue_block (b : Body) (s : State) : (joinQueue b s).block = s.block := by rw [joinQueue_frame]
@[simp] theorem joinQueue_blockWrite (b : Body) (s : State) : (joinQueue b s).blockWrite = s.blockWrite := by rw [joinQueue_frame]
@[simp] theorem joinQueue_store (b : Body) (s : State) : (joinQueue b s).store = s.store := by rw [joinQueue_frame]
@[simp] theorem joinQueue_scanner (b : Body) (s : State) : (joinQueue b s).scanner = s.scanner := by rw [joinQueue_frame]
@[simp] theorem joinQueue_resolver (b : Body) (s : State) : (joinQueue b s).resolver = s.resolver := by rw [joinQueue_frame]
@[simp] theorem joinQueue_sequencer (b : Body) (s : State) : (joinQueue b s).sequencer = s.sequencer := by rw [joinQueue_frame]
@[simp] theorem joinQueue_outputs (b : Body) (s : State) : (joinQueue b s).outputs = s.outputs := by rw [joinQueue_frame]
@[simp] theorem joinQueue_faults (b : Body) (s : State) : (joinQueue b s).faults = s.faults := by rw [joinQueue_frame]
@[simp] theorem joinQueue_service (b : Body) (s : State) : (joinQueue b s).service = s.service := by rw [joinQueue_frame]
@[simp] theorem joinQueue_shoe (b : Body) (s : State) : (joinQueue b s).shoe = s.shoe := by rw [joinQueue_frame]
@[simp] theorem joinQueue_freeNext (b : Body) (s : State) : (joinQueue b s).freeNext = s.freeNext := by rw [joinQueue_frame]
@[simp] theorem joinQueue_pending (b : Body) (s : State) : (joinQueue b s).pending = s.pending := by rw [joinQueue_frame]

/-- What `offerNote` may change: link, faults. -/
theorem offerNote_frame (s : State) :
    offerNote s = { s with link := (offerNote s).link, faults := (offerNote s).faults } := by
  unfold offerNote
  split
  · rfl
  · split
    · rw [joinQueue_frame]; rfl
    · split <;> rfl

@[simp] theorem offerNote_node (s : State) : (offerNote s).node = s.node := by rw [offerNote_frame]
@[simp] theorem offerNote_pins (s : State) : (offerNote s).pins = s.pins := by rw [offerNote_frame]
@[simp] theorem offerNote_straps (s : State) : (offerNote s).straps = s.straps := by rw [offerNote_frame]
@[simp] theorem offerNote_config (s : State) : (offerNote s).config = s.config := by rw [offerNote_frame]
@[simp] theorem offerNote_block (s : State) : (offerNote s).block = s.block := by rw [offerNote_frame]
@[simp] theorem offerNote_blockWrite (s : State) : (offerNote s).blockWrite = s.blockWrite := by rw [offerNote_frame]
@[simp] theorem offerNote_store (s : State) : (offerNote s).store = s.store := by rw [offerNote_frame]
@[simp] theorem offerNote_scanner (s : State) : (offerNote s).scanner = s.scanner := by rw [offerNote_frame]
@[simp] theorem offerNote_resolver (s : State) : (offerNote s).resolver = s.resolver := by rw [offerNote_frame]
@[simp] theorem offerNote_sequencer (s : State) : (offerNote s).sequencer = s.sequencer := by rw [offerNote_frame]
@[simp] theorem offerNote_outputs (s : State) : (offerNote s).outputs = s.outputs := by rw [offerNote_frame]
@[simp] theorem offerNote_service (s : State) : (offerNote s).service = s.service := by rw [offerNote_frame]
@[simp] theorem offerNote_shoe (s : State) : (offerNote s).shoe = s.shoe := by rw [offerNote_frame]
@[simp] theorem offerNote_freeNext (s : State) : (offerNote s).freeNext = s.freeNext := by rw [offerNote_frame]
@[simp] theorem offerNote_pending (s : State) : (offerNote s).pending = s.pending := by rw [offerNote_frame]

/-- What `noteCall` may change: link, faults. -/
theorem noteCall_frame (s : State) :
    noteCall s = { s with link := (noteCall s).link, faults := (noteCall s).faults } := by
  unfold noteCall; split
  · rfl
  · rw [offerNote_frame]; rfl

@[simp] theorem noteCall_node (s : State) : (noteCall s).node = s.node := by rw [noteCall_frame]
@[simp] theorem noteCall_pins (s : State) : (noteCall s).pins = s.pins := by rw [noteCall_frame]
@[simp] theorem noteCall_straps (s : State) : (noteCall s).straps = s.straps := by rw [noteCall_frame]
@[simp] theorem noteCall_config (s : State) : (noteCall s).config = s.config := by rw [noteCall_frame]
@[simp] theorem noteCall_block (s : State) : (noteCall s).block = s.block := by rw [noteCall_frame]
@[simp] theorem noteCall_blockWrite (s : State) : (noteCall s).blockWrite = s.blockWrite := by rw [noteCall_frame]
@[simp] theorem noteCall_store (s : State) : (noteCall s).store = s.store := by rw [noteCall_frame]
@[simp] theorem noteCall_scanner (s : State) : (noteCall s).scanner = s.scanner := by rw [noteCall_frame]
@[simp] theorem noteCall_resolver (s : State) : (noteCall s).resolver = s.resolver := by rw [noteCall_frame]
@[simp] theorem noteCall_sequencer (s : State) : (noteCall s).sequencer = s.sequencer := by rw [noteCall_frame]
@[simp] theorem noteCall_outputs (s : State) : (noteCall s).outputs = s.outputs := by rw [noteCall_frame]
@[simp] theorem noteCall_service (s : State) : (noteCall s).service = s.service := by rw [noteCall_frame]
@[simp] theorem noteCall_shoe (s : State) : (noteCall s).shoe = s.shoe := by rw [noteCall_frame]
@[simp] theorem noteCall_freeNext (s : State) : (noteCall s).freeNext = s.freeNext := by rw [noteCall_frame]
@[simp] theorem noteCall_pending (s : State) : (noteCall s).pending = s.pending := by rw [noteCall_frame]

/-- What `setFlag` may change: link, faults. -/
theorem setFlag_frame (f : Flag) (s : State) :
    setFlag f s = { s with link := (setFlag f s).link, faults := (setFlag f s).faults } := by
  unfold setFlag; split
  · rw [noteCall_frame]; rfl
  · rfl

@[simp] theorem setFlag_node (f : Flag) (s : State) : (setFlag f s).node = s.node := by rw [setFlag_frame]
@[simp] theorem setFlag_pins (f : Flag) (s : State) : (setFlag f s).pins = s.pins := by rw [setFlag_frame]
@[simp] theorem setFlag_straps (f : Flag) (s : State) : (setFlag f s).straps = s.straps := by rw [setFlag_frame]
@[simp] theorem setFlag_config (f : Flag) (s : State) : (setFlag f s).config = s.config := by rw [setFlag_frame]
@[simp] theorem setFlag_block (f : Flag) (s : State) : (setFlag f s).block = s.block := by rw [setFlag_frame]
@[simp] theorem setFlag_blockWrite (f : Flag) (s : State) : (setFlag f s).blockWrite = s.blockWrite := by rw [setFlag_frame]
@[simp] theorem setFlag_store (f : Flag) (s : State) : (setFlag f s).store = s.store := by rw [setFlag_frame]
@[simp] theorem setFlag_scanner (f : Flag) (s : State) : (setFlag f s).scanner = s.scanner := by rw [setFlag_frame]
@[simp] theorem setFlag_resolver (f : Flag) (s : State) : (setFlag f s).resolver = s.resolver := by rw [setFlag_frame]
@[simp] theorem setFlag_sequencer (f : Flag) (s : State) : (setFlag f s).sequencer = s.sequencer := by rw [setFlag_frame]
@[simp] theorem setFlag_outputs (f : Flag) (s : State) : (setFlag f s).outputs = s.outputs := by rw [setFlag_frame]
@[simp] theorem setFlag_service (f : Flag) (s : State) : (setFlag f s).service = s.service := by rw [setFlag_frame]
@[simp] theorem setFlag_shoe (f : Flag) (s : State) : (setFlag f s).shoe = s.shoe := by rw [setFlag_frame]
@[simp] theorem setFlag_freeNext (f : Flag) (s : State) : (setFlag f s).freeNext = s.freeNext := by rw [setFlag_frame]
@[simp] theorem setFlag_pending (f : Flag) (s : State) : (setFlag f s).pending = s.pending := by rw [setFlag_frame]

/-- What `reportStuckCount` may change: link, faults. -/
theorem reportStuckCount_frame (k : Nat) (s : State) :
    reportStuckCount k s = { s with link := (reportStuckCount k s).link, faults := (reportStuckCount k s).faults } := by
  unfold reportStuckCount; dsimp only; split
  · split
    · rw [noteCall_frame]
    · rw [setFlag_frame]
  · split <;> rfl

@[simp] theorem reportStuckCount_node (k : Nat) (s : State) : (reportStuckCount k s).node = s.node := by rw [reportStuckCount_frame]
@[simp] theorem reportStuckCount_pins (k : Nat) (s : State) : (reportStuckCount k s).pins = s.pins := by rw [reportStuckCount_frame]
@[simp] theorem reportStuckCount_straps (k : Nat) (s : State) : (reportStuckCount k s).straps = s.straps := by rw [reportStuckCount_frame]
@[simp] theorem reportStuckCount_config (k : Nat) (s : State) : (reportStuckCount k s).config = s.config := by rw [reportStuckCount_frame]
@[simp] theorem reportStuckCount_block (k : Nat) (s : State) : (reportStuckCount k s).block = s.block := by rw [reportStuckCount_frame]
@[simp] theorem reportStuckCount_blockWrite (k : Nat) (s : State) : (reportStuckCount k s).blockWrite = s.blockWrite := by rw [reportStuckCount_frame]
@[simp] theorem reportStuckCount_store (k : Nat) (s : State) : (reportStuckCount k s).store = s.store := by rw [reportStuckCount_frame]
@[simp] theorem reportStuckCount_scanner (k : Nat) (s : State) : (reportStuckCount k s).scanner = s.scanner := by rw [reportStuckCount_frame]
@[simp] theorem reportStuckCount_resolver (k : Nat) (s : State) : (reportStuckCount k s).resolver = s.resolver := by rw [reportStuckCount_frame]
@[simp] theorem reportStuckCount_sequencer (k : Nat) (s : State) : (reportStuckCount k s).sequencer = s.sequencer := by rw [reportStuckCount_frame]
@[simp] theorem reportStuckCount_outputs (k : Nat) (s : State) : (reportStuckCount k s).outputs = s.outputs := by rw [reportStuckCount_frame]
@[simp] theorem reportStuckCount_service (k : Nat) (s : State) : (reportStuckCount k s).service = s.service := by rw [reportStuckCount_frame]
@[simp] theorem reportStuckCount_shoe (k : Nat) (s : State) : (reportStuckCount k s).shoe = s.shoe := by rw [reportStuckCount_frame]
@[simp] theorem reportStuckCount_freeNext (k : Nat) (s : State) : (reportStuckCount k s).freeNext = s.freeNext := by rw [reportStuckCount_frame]
@[simp] theorem reportStuckCount_pending (k : Nat) (s : State) : (reportStuckCount k s).pending = s.pending := by rw [reportStuckCount_frame]

/-- What `reportStuck` may change: link, faults. -/
theorem reportStuck_frame (s : State) :
    reportStuck s = { s with link := (reportStuck s).link, faults := (reportStuck s).faults } := by
  unfold reportStuck; split
  · rfl
  · rw [reportStuckCount_frame]

@[simp] theorem reportStuck_node (s : State) : (reportStuck s).node = s.node := by rw [reportStuck_frame]
@[simp] theorem reportStuck_pins (s : State) : (reportStuck s).pins = s.pins := by rw [reportStuck_frame]
@[simp] theorem reportStuck_straps (s : State) : (reportStuck s).straps = s.straps := by rw [reportStuck_frame]
@[simp] theorem reportStuck_config (s : State) : (reportStuck s).config = s.config := by rw [reportStuck_frame]
@[simp] theorem reportStuck_block (s : State) : (reportStuck s).block = s.block := by rw [reportStuck_frame]
@[simp] theorem reportStuck_blockWrite (s : State) : (reportStuck s).blockWrite = s.blockWrite := by rw [reportStuck_frame]
@[simp] theorem reportStuck_store (s : State) : (reportStuck s).store = s.store := by rw [reportStuck_frame]
@[simp] theorem reportStuck_scanner (s : State) : (reportStuck s).scanner = s.scanner := by rw [reportStuck_frame]
@[simp] theorem reportStuck_resolver (s : State) : (reportStuck s).resolver = s.resolver := by rw [reportStuck_frame]
@[simp] theorem reportStuck_sequencer (s : State) : (reportStuck s).sequencer = s.sequencer := by rw [reportStuck_frame]
@[simp] theorem reportStuck_outputs (s : State) : (reportStuck s).outputs = s.outputs := by rw [reportStuck_frame]
@[simp] theorem reportStuck_service (s : State) : (reportStuck s).service = s.service := by rw [reportStuck_frame]
@[simp] theorem reportStuck_shoe (s : State) : (reportStuck s).shoe = s.shoe := by rw [reportStuck_frame]
@[simp] theorem reportStuck_freeNext (s : State) : (reportStuck s).freeNext = s.freeNext := by rw [reportStuck_frame]
@[simp] theorem reportStuck_pending (s : State) : (reportStuck s).pending = s.pending := by rw [reportStuck_frame]

/-- What `withSequencer` may change: sequencer, link, faults. -/
theorem withSequencer_frame (q : Sequencer) (s : State) :
    withSequencer q s = { s with sequencer := (withSequencer q s).sequencer, link := (withSequencer q s).link, faults := (withSequencer q s).faults } := by
  unfold withSequencer; rw [reportStuck_frame]

@[simp] theorem withSequencer_node (q : Sequencer) (s : State) : (withSequencer q s).node = s.node := by rw [withSequencer_frame]
@[simp] theorem withSequencer_pins (q : Sequencer) (s : State) : (withSequencer q s).pins = s.pins := by rw [withSequencer_frame]
@[simp] theorem withSequencer_straps (q : Sequencer) (s : State) : (withSequencer q s).straps = s.straps := by rw [withSequencer_frame]
@[simp] theorem withSequencer_config (q : Sequencer) (s : State) : (withSequencer q s).config = s.config := by rw [withSequencer_frame]
@[simp] theorem withSequencer_block (q : Sequencer) (s : State) : (withSequencer q s).block = s.block := by rw [withSequencer_frame]
@[simp] theorem withSequencer_blockWrite (q : Sequencer) (s : State) : (withSequencer q s).blockWrite = s.blockWrite := by rw [withSequencer_frame]
@[simp] theorem withSequencer_store (q : Sequencer) (s : State) : (withSequencer q s).store = s.store := by rw [withSequencer_frame]
@[simp] theorem withSequencer_scanner (q : Sequencer) (s : State) : (withSequencer q s).scanner = s.scanner := by rw [withSequencer_frame]
@[simp] theorem withSequencer_resolver (q : Sequencer) (s : State) : (withSequencer q s).resolver = s.resolver := by rw [withSequencer_frame]
@[simp] theorem withSequencer_outputs (q : Sequencer) (s : State) : (withSequencer q s).outputs = s.outputs := by rw [withSequencer_frame]
@[simp] theorem withSequencer_service (q : Sequencer) (s : State) : (withSequencer q s).service = s.service := by rw [withSequencer_frame]
@[simp] theorem withSequencer_shoe (q : Sequencer) (s : State) : (withSequencer q s).shoe = s.shoe := by rw [withSequencer_frame]
@[simp] theorem withSequencer_freeNext (q : Sequencer) (s : State) : (withSequencer q s).freeNext = s.freeNext := by rw [withSequencer_frame]
@[simp] theorem withSequencer_pending (q : Sequencer) (s : State) : (withSequencer q s).pending = s.pending := by rw [withSequencer_frame]

/-- What `clearRequest` may change: link, faults. -/
theorem clearRequest_frame (m : BitVec 10) (s : State) :
    clearRequest m s = { s with link := (clearRequest m s).link, faults := (clearRequest m s).faults } := by
  unfold clearRequest; rw [noteCall_frame]

@[simp] theorem clearRequest_node (m : BitVec 10) (s : State) : (clearRequest m s).node = s.node := by rw [clearRequest_frame]
@[simp] theorem clearRequest_pins (m : BitVec 10) (s : State) : (clearRequest m s).pins = s.pins := by rw [clearRequest_frame]
@[simp] theorem clearRequest_straps (m : BitVec 10) (s : State) : (clearRequest m s).straps = s.straps := by rw [clearRequest_frame]
@[simp] theorem clearRequest_config (m : BitVec 10) (s : State) : (clearRequest m s).config = s.config := by rw [clearRequest_frame]
@[simp] theorem clearRequest_block (m : BitVec 10) (s : State) : (clearRequest m s).block = s.block := by rw [clearRequest_frame]
@[simp] theorem clearRequest_blockWrite (m : BitVec 10) (s : State) : (clearRequest m s).blockWrite = s.blockWrite := by rw [clearRequest_frame]
@[simp] theorem clearRequest_store (m : BitVec 10) (s : State) : (clearRequest m s).store = s.store := by rw [clearRequest_frame]
@[simp] theorem clearRequest_scanner (m : BitVec 10) (s : State) : (clearRequest m s).scanner = s.scanner := by rw [clearRequest_frame]
@[simp] theorem clearRequest_resolver (m : BitVec 10) (s : State) : (clearRequest m s).resolver = s.resolver := by rw [clearRequest_frame]
@[simp] theorem clearRequest_sequencer (m : BitVec 10) (s : State) : (clearRequest m s).sequencer = s.sequencer := by rw [clearRequest_frame]
@[simp] theorem clearRequest_outputs (m : BitVec 10) (s : State) : (clearRequest m s).outputs = s.outputs := by rw [clearRequest_frame]
@[simp] theorem clearRequest_service (m : BitVec 10) (s : State) : (clearRequest m s).service = s.service := by rw [clearRequest_frame]
@[simp] theorem clearRequest_shoe (m : BitVec 10) (s : State) : (clearRequest m s).shoe = s.shoe := by rw [clearRequest_frame]
@[simp] theorem clearRequest_freeNext (m : BitVec 10) (s : State) : (clearRequest m s).freeNext = s.freeNext := by rw [clearRequest_frame]
@[simp] theorem clearRequest_pending (m : BitVec 10) (s : State) : (clearRequest m s).pending = s.pending := by rw [clearRequest_frame]

/-- What `evictFor` may change: link, faults. -/
theorem evictFor_frame (b : Body) (s : State) :
    evictFor b s = { s with link := (evictFor b s).link, faults := (evictFor b s).faults } := by
  unfold evictFor; split
  · rw [setFlag_frame]
  · dsimp only; rw [setFlag_frame]; split
    · simp only [setNotePending]; rw [joinQueue_frame]
    · rw [joinQueue_frame]

@[simp] theorem evictFor_node (b : Body) (s : State) : (evictFor b s).node = s.node := by rw [evictFor_frame]
@[simp] theorem evictFor_pins (b : Body) (s : State) : (evictFor b s).pins = s.pins := by rw [evictFor_frame]
@[simp] theorem evictFor_straps (b : Body) (s : State) : (evictFor b s).straps = s.straps := by rw [evictFor_frame]
@[simp] theorem evictFor_config (b : Body) (s : State) : (evictFor b s).config = s.config := by rw [evictFor_frame]
@[simp] theorem evictFor_block (b : Body) (s : State) : (evictFor b s).block = s.block := by rw [evictFor_frame]
@[simp] theorem evictFor_blockWrite (b : Body) (s : State) : (evictFor b s).blockWrite = s.blockWrite := by rw [evictFor_frame]
@[simp] theorem evictFor_store (b : Body) (s : State) : (evictFor b s).store = s.store := by rw [evictFor_frame]
@[simp] theorem evictFor_scanner (b : Body) (s : State) : (evictFor b s).scanner = s.scanner := by rw [evictFor_frame]
@[simp] theorem evictFor_resolver (b : Body) (s : State) : (evictFor b s).resolver = s.resolver := by rw [evictFor_frame]
@[simp] theorem evictFor_sequencer (b : Body) (s : State) : (evictFor b s).sequencer = s.sequencer := by rw [evictFor_frame]
@[simp] theorem evictFor_outputs (b : Body) (s : State) : (evictFor b s).outputs = s.outputs := by rw [evictFor_frame]
@[simp] theorem evictFor_service (b : Body) (s : State) : (evictFor b s).service = s.service := by rw [evictFor_frame]
@[simp] theorem evictFor_shoe (b : Body) (s : State) : (evictFor b s).shoe = s.shoe := by rw [evictFor_frame]
@[simp] theorem evictFor_freeNext (b : Body) (s : State) : (evictFor b s).freeNext = s.freeNext := by rw [evictFor_frame]
@[simp] theorem evictFor_pending (b : Body) (s : State) : (evictFor b s).pending = s.pending := by rw [evictFor_frame]

/-- What `offer` may change: link, faults. -/
theorem offer_fst_frame (b : Body) (s : State) :
    (offer b s).1 = { s with link := ((offer b s).1).link, faults := ((offer b s).1).faults } := by
  unfold offer; split
  · split
    · rfl
    · split
      · rw [joinQueue_frame]
      · rw [setFlag_frame]
  · split
    · rw [joinQueue_frame]
    · split
      · rw [evictFor_frame]
      · rw [setFlag_frame]

@[simp] theorem offer_fst_node (b : Body) (s : State) : ((offer b s).1).node = s.node := by rw [offer_fst_frame]
@[simp] theorem offer_fst_pins (b : Body) (s : State) : ((offer b s).1).pins = s.pins := by rw [offer_fst_frame]
@[simp] theorem offer_fst_straps (b : Body) (s : State) : ((offer b s).1).straps = s.straps := by rw [offer_fst_frame]
@[simp] theorem offer_fst_config (b : Body) (s : State) : ((offer b s).1).config = s.config := by rw [offer_fst_frame]
@[simp] theorem offer_fst_block (b : Body) (s : State) : ((offer b s).1).block = s.block := by rw [offer_fst_frame]
@[simp] theorem offer_fst_blockWrite (b : Body) (s : State) : ((offer b s).1).blockWrite = s.blockWrite := by rw [offer_fst_frame]
@[simp] theorem offer_fst_store (b : Body) (s : State) : ((offer b s).1).store = s.store := by rw [offer_fst_frame]
@[simp] theorem offer_fst_scanner (b : Body) (s : State) : ((offer b s).1).scanner = s.scanner := by rw [offer_fst_frame]
@[simp] theorem offer_fst_resolver (b : Body) (s : State) : ((offer b s).1).resolver = s.resolver := by rw [offer_fst_frame]
@[simp] theorem offer_fst_sequencer (b : Body) (s : State) : ((offer b s).1).sequencer = s.sequencer := by rw [offer_fst_frame]
@[simp] theorem offer_fst_outputs (b : Body) (s : State) : ((offer b s).1).outputs = s.outputs := by rw [offer_fst_frame]
@[simp] theorem offer_fst_service (b : Body) (s : State) : ((offer b s).1).service = s.service := by rw [offer_fst_frame]
@[simp] theorem offer_fst_shoe (b : Body) (s : State) : ((offer b s).1).shoe = s.shoe := by rw [offer_fst_frame]
@[simp] theorem offer_fst_freeNext (b : Body) (s : State) : ((offer b s).1).freeNext = s.freeNext := by rw [offer_fst_frame]
@[simp] theorem offer_fst_pending (b : Body) (s : State) : ((offer b s).1).pending = s.pending := by rw [offer_fst_frame]

/-- What `offerWithSerial` may change: resolver, link, faults. -/
theorem offerWithSerial_fst_frame (b : Byte → Body) (s : State) :
    (offerWithSerial b s).1 = { s with resolver := ((offerWithSerial b s).1).resolver, link := ((offerWithSerial b s).1).link, faults := ((offerWithSerial b s).1).faults } := by
  unfold offerWithSerial
  have h := offer_fst_frame (b s.resolver.serial) s
  split <;> rename_i t e <;> rw [e] at h <;> simp only [advanceSerial] at * <;> rw [h]

@[simp] theorem offerWithSerial_fst_node (b : Byte → Body) (s : State) : ((offerWithSerial b s).1).node = s.node := by rw [offerWithSerial_fst_frame]
@[simp] theorem offerWithSerial_fst_pins (b : Byte → Body) (s : State) : ((offerWithSerial b s).1).pins = s.pins := by rw [offerWithSerial_fst_frame]
@[simp] theorem offerWithSerial_fst_straps (b : Byte → Body) (s : State) : ((offerWithSerial b s).1).straps = s.straps := by rw [offerWithSerial_fst_frame]
@[simp] theorem offerWithSerial_fst_config (b : Byte → Body) (s : State) : ((offerWithSerial b s).1).config = s.config := by rw [offerWithSerial_fst_frame]
@[simp] theorem offerWithSerial_fst_block (b : Byte → Body) (s : State) : ((offerWithSerial b s).1).block = s.block := by rw [offerWithSerial_fst_frame]
@[simp] theorem offerWithSerial_fst_blockWrite (b : Byte → Body) (s : State) : ((offerWithSerial b s).1).blockWrite = s.blockWrite := by rw [offerWithSerial_fst_frame]
@[simp] theorem offerWithSerial_fst_store (b : Byte → Body) (s : State) : ((offerWithSerial b s).1).store = s.store := by rw [offerWithSerial_fst_frame]
@[simp] theorem offerWithSerial_fst_scanner (b : Byte → Body) (s : State) : ((offerWithSerial b s).1).scanner = s.scanner := by rw [offerWithSerial_fst_frame]
@[simp] theorem offerWithSerial_fst_sequencer (b : Byte → Body) (s : State) : ((offerWithSerial b s).1).sequencer = s.sequencer := by rw [offerWithSerial_fst_frame]
@[simp] theorem offerWithSerial_fst_outputs (b : Byte → Body) (s : State) : ((offerWithSerial b s).1).outputs = s.outputs := by rw [offerWithSerial_fst_frame]
@[simp] theorem offerWithSerial_fst_service (b : Byte → Body) (s : State) : ((offerWithSerial b s).1).service = s.service := by rw [offerWithSerial_fst_frame]
@[simp] theorem offerWithSerial_fst_shoe (b : Byte → Body) (s : State) : ((offerWithSerial b s).1).shoe = s.shoe := by rw [offerWithSerial_fst_frame]
@[simp] theorem offerWithSerial_fst_freeNext (b : Byte → Body) (s : State) : ((offerWithSerial b s).1).freeNext = s.freeNext := by rw [offerWithSerial_fst_frame]
@[simp] theorem offerWithSerial_fst_pending (b : Byte → Body) (s : State) : ((offerWithSerial b s).1).pending = s.pending := by rw [offerWithSerial_fst_frame]

/-- What `headLeaves` may change: link, faults. -/
theorem headLeaves_frame (s : State) :
    headLeaves s = { s with link := (headLeaves s).link, faults := (headLeaves s).faults } := by
  unfold headLeaves; split
  · rfl
  · dsimp only; split
    · rw [offerNote_frame]
    · rfl

@[simp] theorem headLeaves_node (s : State) : (headLeaves s).node = s.node := by rw [headLeaves_frame]
@[simp] theorem headLeaves_pins (s : State) : (headLeaves s).pins = s.pins := by rw [headLeaves_frame]
@[simp] theorem headLeaves_straps (s : State) : (headLeaves s).straps = s.straps := by rw [headLeaves_frame]
@[simp] theorem headLeaves_config (s : State) : (headLeaves s).config = s.config := by rw [headLeaves_frame]
@[simp] theorem headLeaves_block (s : State) : (headLeaves s).block = s.block := by rw [headLeaves_frame]
@[simp] theorem headLeaves_blockWrite (s : State) : (headLeaves s).blockWrite = s.blockWrite := by rw [headLeaves_frame]
@[simp] theorem headLeaves_store (s : State) : (headLeaves s).store = s.store := by rw [headLeaves_frame]
@[simp] theorem headLeaves_scanner (s : State) : (headLeaves s).scanner = s.scanner := by rw [headLeaves_frame]
@[simp] theorem headLeaves_resolver (s : State) : (headLeaves s).resolver = s.resolver := by rw [headLeaves_frame]
@[simp] theorem headLeaves_sequencer (s : State) : (headLeaves s).sequencer = s.sequencer := by rw [headLeaves_frame]
@[simp] theorem headLeaves_outputs (s : State) : (headLeaves s).outputs = s.outputs := by rw [headLeaves_frame]
@[simp] theorem headLeaves_service (s : State) : (headLeaves s).service = s.service := by rw [headLeaves_frame]
@[simp] theorem headLeaves_shoe (s : State) : (headLeaves s).shoe = s.shoe := by rw [headLeaves_frame]
@[simp] theorem headLeaves_freeNext (s : State) : (headLeaves s).freeNext = s.freeNext := by rw [headLeaves_frame]
@[simp] theorem headLeaves_pending (s : State) : (headLeaves s).pending = s.pending := by rw [headLeaves_frame]

/-- What `startRule` may change: sequencer. -/
theorem startRule_frame (s : State) :
    startRule s = { s with sequencer := (startRule s).sequencer } := by
  unfold startRule; split <;> rfl

@[simp] theorem startRule_node (s : State) : (startRule s).node = s.node := by rw [startRule_frame]
@[simp] theorem startRule_pins (s : State) : (startRule s).pins = s.pins := by rw [startRule_frame]
@[simp] theorem startRule_straps (s : State) : (startRule s).straps = s.straps := by rw [startRule_frame]
@[simp] theorem startRule_config (s : State) : (startRule s).config = s.config := by rw [startRule_frame]
@[simp] theorem startRule_block (s : State) : (startRule s).block = s.block := by rw [startRule_frame]
@[simp] theorem startRule_blockWrite (s : State) : (startRule s).blockWrite = s.blockWrite := by rw [startRule_frame]
@[simp] theorem startRule_store (s : State) : (startRule s).store = s.store := by rw [startRule_frame]
@[simp] theorem startRule_scanner (s : State) : (startRule s).scanner = s.scanner := by rw [startRule_frame]
@[simp] theorem startRule_resolver (s : State) : (startRule s).resolver = s.resolver := by rw [startRule_frame]
@[simp] theorem startRule_link (s : State) : (startRule s).link = s.link := by rw [startRule_frame]
@[simp] theorem startRule_outputs (s : State) : (startRule s).outputs = s.outputs := by rw [startRule_frame]
@[simp] theorem startRule_faults (s : State) : (startRule s).faults = s.faults := by rw [startRule_frame]
@[simp] theorem startRule_service (s : State) : (startRule s).service = s.service := by rw [startRule_frame]
@[simp] theorem startRule_shoe (s : State) : (startRule s).shoe = s.shoe := by rw [startRule_frame]
@[simp] theorem startRule_freeNext (s : State) : (startRule s).freeNext = s.freeNext := by rw [startRule_frame]
@[simp] theorem startRule_pending (s : State) : (startRule s).pending = s.pending := by rw [startRule_frame]

/-- What `startShift` may change: outputs. -/
theorem startShift_frame (s : State) :
    startShift s = { s with outputs := (startShift s).outputs } := by
  unfold startShift; split <;> rfl

@[simp] theorem startShift_node (s : State) : (startShift s).node = s.node := by rw [startShift_frame]
@[simp] theorem startShift_pins (s : State) : (startShift s).pins = s.pins := by rw [startShift_frame]
@[simp] theorem startShift_straps (s : State) : (startShift s).straps = s.straps := by rw [startShift_frame]
@[simp] theorem startShift_config (s : State) : (startShift s).config = s.config := by rw [startShift_frame]
@[simp] theorem startShift_block (s : State) : (startShift s).block = s.block := by rw [startShift_frame]
@[simp] theorem startShift_blockWrite (s : State) : (startShift s).blockWrite = s.blockWrite := by rw [startShift_frame]
@[simp] theorem startShift_store (s : State) : (startShift s).store = s.store := by rw [startShift_frame]
@[simp] theorem startShift_scanner (s : State) : (startShift s).scanner = s.scanner := by rw [startShift_frame]
@[simp] theorem startShift_resolver (s : State) : (startShift s).resolver = s.resolver := by rw [startShift_frame]
@[simp] theorem startShift_sequencer (s : State) : (startShift s).sequencer = s.sequencer := by rw [startShift_frame]
@[simp] theorem startShift_link (s : State) : (startShift s).link = s.link := by rw [startShift_frame]
@[simp] theorem startShift_faults (s : State) : (startShift s).faults = s.faults := by rw [startShift_frame]
@[simp] theorem startShift_service (s : State) : (startShift s).service = s.service := by rw [startShift_frame]
@[simp] theorem startShift_shoe (s : State) : (startShift s).shoe = s.shoe := by rw [startShift_frame]
@[simp] theorem startShift_freeNext (s : State) : (startShift s).freeNext = s.freeNext := by rw [startShift_frame]
@[simp] theorem startShift_pending (s : State) : (startShift s).pending = s.pending := by rw [startShift_frame]

/-- What `refreshSpeaking` may change: resolver, outputs. -/
theorem refreshSpeaking_frame (s : State) :
    refreshSpeaking s = { s with resolver := (refreshSpeaking s).resolver, outputs := (refreshSpeaking s).outputs } := by
  unfold refreshSpeaking; dsimp only; split
  · rfl
  · rw [startShift_frame]

@[simp] theorem refreshSpeaking_node (s : State) : (refreshSpeaking s).node = s.node := by rw [refreshSpeaking_frame]
@[simp] theorem refreshSpeaking_pins (s : State) : (refreshSpeaking s).pins = s.pins := by rw [refreshSpeaking_frame]
@[simp] theorem refreshSpeaking_straps (s : State) : (refreshSpeaking s).straps = s.straps := by rw [refreshSpeaking_frame]
@[simp] theorem refreshSpeaking_config (s : State) : (refreshSpeaking s).config = s.config := by rw [refreshSpeaking_frame]
@[simp] theorem refreshSpeaking_block (s : State) : (refreshSpeaking s).block = s.block := by rw [refreshSpeaking_frame]
@[simp] theorem refreshSpeaking_blockWrite (s : State) : (refreshSpeaking s).blockWrite = s.blockWrite := by rw [refreshSpeaking_frame]
@[simp] theorem refreshSpeaking_store (s : State) : (refreshSpeaking s).store = s.store := by rw [refreshSpeaking_frame]
@[simp] theorem refreshSpeaking_scanner (s : State) : (refreshSpeaking s).scanner = s.scanner := by rw [refreshSpeaking_frame]
@[simp] theorem refreshSpeaking_sequencer (s : State) : (refreshSpeaking s).sequencer = s.sequencer := by rw [refreshSpeaking_frame]
@[simp] theorem refreshSpeaking_link (s : State) : (refreshSpeaking s).link = s.link := by rw [refreshSpeaking_frame]
@[simp] theorem refreshSpeaking_faults (s : State) : (refreshSpeaking s).faults = s.faults := by rw [refreshSpeaking_frame]
@[simp] theorem refreshSpeaking_service (s : State) : (refreshSpeaking s).service = s.service := by rw [refreshSpeaking_frame]
@[simp] theorem refreshSpeaking_shoe (s : State) : (refreshSpeaking s).shoe = s.shoe := by rw [refreshSpeaking_frame]
@[simp] theorem refreshSpeaking_freeNext (s : State) : (refreshSpeaking s).freeNext = s.freeNext := by rw [refreshSpeaking_frame]
@[simp] theorem refreshSpeaking_pending (s : State) : (refreshSpeaking s).pending = s.pending := by rw [refreshSpeaking_frame]

/-- What `applyTargets` may change: resolver, sequencer, link, faults. -/
theorem applyTargets_frame (g : StopSet) (s : State) :
    applyTargets g s = { s with resolver := (applyTargets g s).resolver, sequencer := (applyTargets g s).sequencer, link := (applyTargets g s).link, faults := (applyTargets g s).faults } := by
  unfold applyTargets; rw [withSequencer_frame]

@[simp] theorem applyTargets_node (g : StopSet) (s : State) : (applyTargets g s).node = s.node := by rw [applyTargets_frame]
@[simp] theorem applyTargets_pins (g : StopSet) (s : State) : (applyTargets g s).pins = s.pins := by rw [applyTargets_frame]
@[simp] theorem applyTargets_straps (g : StopSet) (s : State) : (applyTargets g s).straps = s.straps := by rw [applyTargets_frame]
@[simp] theorem applyTargets_config (g : StopSet) (s : State) : (applyTargets g s).config = s.config := by rw [applyTargets_frame]
@[simp] theorem applyTargets_block (g : StopSet) (s : State) : (applyTargets g s).block = s.block := by rw [applyTargets_frame]
@[simp] theorem applyTargets_blockWrite (g : StopSet) (s : State) : (applyTargets g s).blockWrite = s.blockWrite := by rw [applyTargets_frame]
@[simp] theorem applyTargets_store (g : StopSet) (s : State) : (applyTargets g s).store = s.store := by rw [applyTargets_frame]
@[simp] theorem applyTargets_scanner (g : StopSet) (s : State) : (applyTargets g s).scanner = s.scanner := by rw [applyTargets_frame]
@[simp] theorem applyTargets_outputs (g : StopSet) (s : State) : (applyTargets g s).outputs = s.outputs := by rw [applyTargets_frame]
@[simp] theorem applyTargets_service (g : StopSet) (s : State) : (applyTargets g s).service = s.service := by rw [applyTargets_frame]
@[simp] theorem applyTargets_shoe (g : StopSet) (s : State) : (applyTargets g s).shoe = s.shoe := by rw [applyTargets_frame]
@[simp] theorem applyTargets_freeNext (g : StopSet) (s : State) : (applyTargets g s).freeNext = s.freeNext := by rw [applyTargets_frame]
@[simp] theorem applyTargets_pending (g : StopSet) (s : State) : (applyTargets g s).pending = s.pending := by rw [applyTargets_frame]

/-- What `checkGeneral` may change: resolver, link, faults. -/
theorem checkGeneral_frame (s : State) :
    checkGeneral s = { s with resolver := (checkGeneral s).resolver, link := (checkGeneral s).link, faults := (checkGeneral s).faults } := by
  unfold checkGeneral; split
  · rfl
  · split
    · have h := offer_fst_frame (.deviate .general (by assumption : Reference).tag) s
      split <;> rename_i e <;> rw [e] at h <;> simp only at * <;> rw [h]
    · rfl

@[simp] theorem checkGeneral_node (s : State) : (checkGeneral s).node = s.node := by rw [checkGeneral_frame]
@[simp] theorem checkGeneral_pins (s : State) : (checkGeneral s).pins = s.pins := by rw [checkGeneral_frame]
@[simp] theorem checkGeneral_straps (s : State) : (checkGeneral s).straps = s.straps := by rw [checkGeneral_frame]
@[simp] theorem checkGeneral_config (s : State) : (checkGeneral s).config = s.config := by rw [checkGeneral_frame]
@[simp] theorem checkGeneral_block (s : State) : (checkGeneral s).block = s.block := by rw [checkGeneral_frame]
@[simp] theorem checkGeneral_blockWrite (s : State) : (checkGeneral s).blockWrite = s.blockWrite := by rw [checkGeneral_frame]
@[simp] theorem checkGeneral_store (s : State) : (checkGeneral s).store = s.store := by rw [checkGeneral_frame]
@[simp] theorem checkGeneral_scanner (s : State) : (checkGeneral s).scanner = s.scanner := by rw [checkGeneral_frame]
@[simp] theorem checkGeneral_sequencer (s : State) : (checkGeneral s).sequencer = s.sequencer := by rw [checkGeneral_frame]
@[simp] theorem checkGeneral_outputs (s : State) : (checkGeneral s).outputs = s.outputs := by rw [checkGeneral_frame]
@[simp] theorem checkGeneral_service (s : State) : (checkGeneral s).service = s.service := by rw [checkGeneral_frame]
@[simp] theorem checkGeneral_shoe (s : State) : (checkGeneral s).shoe = s.shoe := by rw [checkGeneral_frame]
@[simp] theorem checkGeneral_freeNext (s : State) : (checkGeneral s).freeNext = s.freeNext := by rw [checkGeneral_frame]
@[simp] theorem checkGeneral_pending (s : State) : (checkGeneral s).pending = s.pending := by rw [checkGeneral_frame]

/-- What `checkDivisional` may change: resolver, link, faults. -/
theorem checkDivisional_frame (s : State) :
    checkDivisional s = { s with resolver := (checkDivisional s).resolver, link := (checkDivisional s).link, faults := (checkDivisional s).faults } := by
  unfold checkDivisional; split
  · rfl
  · split
    · have h := offer_fst_frame (.deviate .divisional (by assumption : Reference).tag) s
      split <;> rename_i e <;> rw [e] at h <;> simp only at * <;> rw [h]
    · rfl

@[simp] theorem checkDivisional_node (s : State) : (checkDivisional s).node = s.node := by rw [checkDivisional_frame]
@[simp] theorem checkDivisional_pins (s : State) : (checkDivisional s).pins = s.pins := by rw [checkDivisional_frame]
@[simp] theorem checkDivisional_straps (s : State) : (checkDivisional s).straps = s.straps := by rw [checkDivisional_frame]
@[simp] theorem checkDivisional_config (s : State) : (checkDivisional s).config = s.config := by rw [checkDivisional_frame]
@[simp] theorem checkDivisional_block (s : State) : (checkDivisional s).block = s.block := by rw [checkDivisional_frame]
@[simp] theorem checkDivisional_blockWrite (s : State) : (checkDivisional s).blockWrite = s.blockWrite := by rw [checkDivisional_frame]
@[simp] theorem checkDivisional_store (s : State) : (checkDivisional s).store = s.store := by rw [checkDivisional_frame]
@[simp] theorem checkDivisional_scanner (s : State) : (checkDivisional s).scanner = s.scanner := by rw [checkDivisional_frame]
@[simp] theorem checkDivisional_sequencer (s : State) : (checkDivisional s).sequencer = s.sequencer := by rw [checkDivisional_frame]
@[simp] theorem checkDivisional_outputs (s : State) : (checkDivisional s).outputs = s.outputs := by rw [checkDivisional_frame]
@[simp] theorem checkDivisional_service (s : State) : (checkDivisional s).service = s.service := by rw [checkDivisional_frame]
@[simp] theorem checkDivisional_shoe (s : State) : (checkDivisional s).shoe = s.shoe := by rw [checkDivisional_frame]
@[simp] theorem checkDivisional_freeNext (s : State) : (checkDivisional s).freeNext = s.freeNext := by rw [checkDivisional_frame]
@[simp] theorem checkDivisional_pending (s : State) : (checkDivisional s).pending = s.pending := by rw [checkDivisional_frame]

/-- What `readRecord` may change: link, faults. -/
theorem readRecord_frame (i : Nat) (s : State) :
    readRecord i s = { s with link := (readRecord i s).link, faults := (readRecord i s).faults } := by
  unfold readRecord; split
  · rw [setFlag_frame]
  · rfl

@[simp] theorem readRecord_node (i : Nat) (s : State) : (readRecord i s).node = s.node := by rw [readRecord_frame]
@[simp] theorem readRecord_pins (i : Nat) (s : State) : (readRecord i s).pins = s.pins := by rw [readRecord_frame]
@[simp] theorem readRecord_straps (i : Nat) (s : State) : (readRecord i s).straps = s.straps := by rw [readRecord_frame]
@[simp] theorem readRecord_config (i : Nat) (s : State) : (readRecord i s).config = s.config := by rw [readRecord_frame]
@[simp] theorem readRecord_block (i : Nat) (s : State) : (readRecord i s).block = s.block := by rw [readRecord_frame]
@[simp] theorem readRecord_blockWrite (i : Nat) (s : State) : (readRecord i s).blockWrite = s.blockWrite := by rw [readRecord_frame]
@[simp] theorem readRecord_store (i : Nat) (s : State) : (readRecord i s).store = s.store := by rw [readRecord_frame]
@[simp] theorem readRecord_scanner (i : Nat) (s : State) : (readRecord i s).scanner = s.scanner := by rw [readRecord_frame]
@[simp] theorem readRecord_resolver (i : Nat) (s : State) : (readRecord i s).resolver = s.resolver := by rw [readRecord_frame]
@[simp] theorem readRecord_sequencer (i : Nat) (s : State) : (readRecord i s).sequencer = s.sequencer := by rw [readRecord_frame]
@[simp] theorem readRecord_outputs (i : Nat) (s : State) : (readRecord i s).outputs = s.outputs := by rw [readRecord_frame]
@[simp] theorem readRecord_service (i : Nat) (s : State) : (readRecord i s).service = s.service := by rw [readRecord_frame]
@[simp] theorem readRecord_shoe (i : Nat) (s : State) : (readRecord i s).shoe = s.shoe := by rw [readRecord_frame]
@[simp] theorem readRecord_freeNext (i : Nat) (s : State) : (readRecord i s).freeNext = s.freeNext := by rw [readRecord_frame]
@[simp] theorem readRecord_pending (i : Nat) (s : State) : (readRecord i s).pending = s.pending := by rw [readRecord_frame]

/-- What `setLampReference` may change: resolver. -/
theorem setLampReference_frame (d : Division) (r : Option LampReference) (s : State) :
    setLampReference d r s = { s with resolver := (setLampReference d r s).resolver } := by
  unfold setLampReference; split <;> rfl

@[simp] theorem setLampReference_node (d : Division) (r : Option LampReference) (s : State) : (setLampReference d r s).node = s.node := by rw [setLampReference_frame]
@[simp] theorem setLampReference_pins (d : Division) (r : Option LampReference) (s : State) : (setLampReference d r s).pins = s.pins := by rw [setLampReference_frame]
@[simp] theorem setLampReference_straps (d : Division) (r : Option LampReference) (s : State) : (setLampReference d r s).straps = s.straps := by rw [setLampReference_frame]
@[simp] theorem setLampReference_config (d : Division) (r : Option LampReference) (s : State) : (setLampReference d r s).config = s.config := by rw [setLampReference_frame]
@[simp] theorem setLampReference_block (d : Division) (r : Option LampReference) (s : State) : (setLampReference d r s).block = s.block := by rw [setLampReference_frame]
@[simp] theorem setLampReference_blockWrite (d : Division) (r : Option LampReference) (s : State) : (setLampReference d r s).blockWrite = s.blockWrite := by rw [setLampReference_frame]
@[simp] theorem setLampReference_store (d : Division) (r : Option LampReference) (s : State) : (setLampReference d r s).store = s.store := by rw [setLampReference_frame]
@[simp] theorem setLampReference_scanner (d : Division) (r : Option LampReference) (s : State) : (setLampReference d r s).scanner = s.scanner := by rw [setLampReference_frame]
@[simp] theorem setLampReference_sequencer (d : Division) (r : Option LampReference) (s : State) : (setLampReference d r s).sequencer = s.sequencer := by rw [setLampReference_frame]
@[simp] theorem setLampReference_link (d : Division) (r : Option LampReference) (s : State) : (setLampReference d r s).link = s.link := by rw [setLampReference_frame]
@[simp] theorem setLampReference_outputs (d : Division) (r : Option LampReference) (s : State) : (setLampReference d r s).outputs = s.outputs := by rw [setLampReference_frame]
@[simp] theorem setLampReference_faults (d : Division) (r : Option LampReference) (s : State) : (setLampReference d r s).faults = s.faults := by rw [setLampReference_frame]
@[simp] theorem setLampReference_service (d : Division) (r : Option LampReference) (s : State) : (setLampReference d r s).service = s.service := by rw [setLampReference_frame]
@[simp] theorem setLampReference_shoe (d : Division) (r : Option LampReference) (s : State) : (setLampReference d r s).shoe = s.shoe := by rw [setLampReference_frame]
@[simp] theorem setLampReference_freeNext (d : Division) (r : Option LampReference) (s : State) : (setLampReference d r s).freeNext = s.freeNext := by rw [setLampReference_frame]
@[simp] theorem setLampReference_pending (d : Division) (r : Option LampReference) (s : State) : (setLampReference d r s).pending = s.pending := by rw [setLampReference_frame]

/-- What `startWrite` may change: store. -/
theorem startWrite_frame (s : State) :
    startWrite s = { s with store := (startWrite s).store } := by
  unfold startWrite; split
  · split <;> rfl
  · rfl

@[simp] theorem startWrite_node (s : State) : (startWrite s).node = s.node := by rw [startWrite_frame]
@[simp] theorem startWrite_pins (s : State) : (startWrite s).pins = s.pins := by rw [startWrite_frame]
@[simp] theorem startWrite_straps (s : State) : (startWrite s).straps = s.straps := by rw [startWrite_frame]
@[simp] theorem startWrite_config (s : State) : (startWrite s).config = s.config := by rw [startWrite_frame]
@[simp] theorem startWrite_block (s : State) : (startWrite s).block = s.block := by rw [startWrite_frame]
@[simp] theorem startWrite_blockWrite (s : State) : (startWrite s).blockWrite = s.blockWrite := by rw [startWrite_frame]
@[simp] theorem startWrite_scanner (s : State) : (startWrite s).scanner = s.scanner := by rw [startWrite_frame]
@[simp] theorem startWrite_resolver (s : State) : (startWrite s).resolver = s.resolver := by rw [startWrite_frame]
@[simp] theorem startWrite_sequencer (s : State) : (startWrite s).sequencer = s.sequencer := by rw [startWrite_frame]
@[simp] theorem startWrite_link (s : State) : (startWrite s).link = s.link := by rw [startWrite_frame]
@[simp] theorem startWrite_outputs (s : State) : (startWrite s).outputs = s.outputs := by rw [startWrite_frame]
@[simp] theorem startWrite_faults (s : State) : (startWrite s).faults = s.faults := by rw [startWrite_frame]
@[simp] theorem startWrite_service (s : State) : (startWrite s).service = s.service := by rw [startWrite_frame]
@[simp] theorem startWrite_shoe (s : State) : (startWrite s).shoe = s.shoe := by rw [startWrite_frame]
@[simp] theorem startWrite_freeNext (s : State) : (startWrite s).freeNext = s.freeNext := by rw [startWrite_frame]
@[simp] theorem startWrite_pending (s : State) : (startWrite s).pending = s.pending := by rw [startWrite_frame]

/-- What `offerWrite` may change: store, link, faults. -/
theorem offerWrite_fst_frame (i : Nat) (e : EntryBytes) (c : Source) (s : State) :
    (offerWrite i e c s).1 = { s with store := ((offerWrite i e c s).1).store, link := ((offerWrite i e c s).1).link, faults := ((offerWrite i e c s).1).faults } := by
  unfold offerWrite; split
  · rw [startWrite_frame]
  · rw [setFlag_frame]

@[simp] theorem offerWrite_fst_node (i : Nat) (e : EntryBytes) (c : Source) (s : State) : ((offerWrite i e c s).1).node = s.node := by rw [offerWrite_fst_frame]
@[simp] theorem offerWrite_fst_pins (i : Nat) (e : EntryBytes) (c : Source) (s : State) : ((offerWrite i e c s).1).pins = s.pins := by rw [offerWrite_fst_frame]
@[simp] theorem offerWrite_fst_straps (i : Nat) (e : EntryBytes) (c : Source) (s : State) : ((offerWrite i e c s).1).straps = s.straps := by rw [offerWrite_fst_frame]
@[simp] theorem offerWrite_fst_config (i : Nat) (e : EntryBytes) (c : Source) (s : State) : ((offerWrite i e c s).1).config = s.config := by rw [offerWrite_fst_frame]
@[simp] theorem offerWrite_fst_block (i : Nat) (e : EntryBytes) (c : Source) (s : State) : ((offerWrite i e c s).1).block = s.block := by rw [offerWrite_fst_frame]
@[simp] theorem offerWrite_fst_blockWrite (i : Nat) (e : EntryBytes) (c : Source) (s : State) : ((offerWrite i e c s).1).blockWrite = s.blockWrite := by rw [offerWrite_fst_frame]
@[simp] theorem offerWrite_fst_scanner (i : Nat) (e : EntryBytes) (c : Source) (s : State) : ((offerWrite i e c s).1).scanner = s.scanner := by rw [offerWrite_fst_frame]
@[simp] theorem offerWrite_fst_resolver (i : Nat) (e : EntryBytes) (c : Source) (s : State) : ((offerWrite i e c s).1).resolver = s.resolver := by rw [offerWrite_fst_frame]
@[simp] theorem offerWrite_fst_sequencer (i : Nat) (e : EntryBytes) (c : Source) (s : State) : ((offerWrite i e c s).1).sequencer = s.sequencer := by rw [offerWrite_fst_frame]
@[simp] theorem offerWrite_fst_outputs (i : Nat) (e : EntryBytes) (c : Source) (s : State) : ((offerWrite i e c s).1).outputs = s.outputs := by rw [offerWrite_fst_frame]
@[simp] theorem offerWrite_fst_service (i : Nat) (e : EntryBytes) (c : Source) (s : State) : ((offerWrite i e c s).1).service = s.service := by rw [offerWrite_fst_frame]
@[simp] theorem offerWrite_fst_shoe (i : Nat) (e : EntryBytes) (c : Source) (s : State) : ((offerWrite i e c s).1).shoe = s.shoe := by rw [offerWrite_fst_frame]
@[simp] theorem offerWrite_fst_freeNext (i : Nat) (e : EntryBytes) (c : Source) (s : State) : ((offerWrite i e c s).1).freeNext = s.freeNext := by rw [offerWrite_fst_frame]
@[simp] theorem offerWrite_fst_pending (i : Nat) (e : EntryBytes) (c : Source) (s : State) : ((offerWrite i e c s).1).pending = s.pending := by rw [offerWrite_fst_frame]

/-- What `writeDone` may change: store. -/
theorem writeDone_frame (s : State) :
    writeDone s = { s with store := (writeDone s).store } := by
  unfold writeDone; rw [startWrite_frame]

@[simp] theorem writeDone_node (s : State) : (writeDone s).node = s.node := by rw [writeDone_frame]
@[simp] theorem writeDone_pins (s : State) : (writeDone s).pins = s.pins := by rw [writeDone_frame]
@[simp] theorem writeDone_straps (s : State) : (writeDone s).straps = s.straps := by rw [writeDone_frame]
@[simp] theorem writeDone_config (s : State) : (writeDone s).config = s.config := by rw [writeDone_frame]
@[simp] theorem writeDone_block (s : State) : (writeDone s).block = s.block := by rw [writeDone_frame]
@[simp] theorem writeDone_blockWrite (s : State) : (writeDone s).blockWrite = s.blockWrite := by rw [writeDone_frame]
@[simp] theorem writeDone_scanner (s : State) : (writeDone s).scanner = s.scanner := by rw [writeDone_frame]
@[simp] theorem writeDone_resolver (s : State) : (writeDone s).resolver = s.resolver := by rw [writeDone_frame]
@[simp] theorem writeDone_sequencer (s : State) : (writeDone s).sequencer = s.sequencer := by rw [writeDone_frame]
@[simp] theorem writeDone_link (s : State) : (writeDone s).link = s.link := by rw [writeDone_frame]
@[simp] theorem writeDone_outputs (s : State) : (writeDone s).outputs = s.outputs := by rw [writeDone_frame]
@[simp] theorem writeDone_faults (s : State) : (writeDone s).faults = s.faults := by rw [writeDone_frame]
@[simp] theorem writeDone_service (s : State) : (writeDone s).service = s.service := by rw [writeDone_frame]
@[simp] theorem writeDone_shoe (s : State) : (writeDone s).shoe = s.shoe := by rw [writeDone_frame]
@[simp] theorem writeDone_freeNext (s : State) : (writeDone s).freeNext = s.freeNext := by rw [writeDone_frame]
@[simp] theorem writeDone_pending (s : State) : (writeDone s).pending = s.pending := by rw [writeDone_frame]

/-- What `verifyHead` may change: store. -/
theorem verifyHead_frame (e : WriteEntry) (r : Option ArrayBytes) (s : State) :
    verifyHead e r s = { s with store := (verifyHead e r s).store } := by
  unfold verifyHead; dsimp only; split
  · rw [writeDone_frame]
  · rfl

@[simp] theorem verifyHead_node (e : WriteEntry) (r : Option ArrayBytes) (s : State) : (verifyHead e r s).node = s.node := by rw [verifyHead_frame]
@[simp] theorem verifyHead_pins (e : WriteEntry) (r : Option ArrayBytes) (s : State) : (verifyHead e r s).pins = s.pins := by rw [verifyHead_frame]
@[simp] theorem verifyHead_straps (e : WriteEntry) (r : Option ArrayBytes) (s : State) : (verifyHead e r s).straps = s.straps := by rw [verifyHead_frame]
@[simp] theorem verifyHead_config (e : WriteEntry) (r : Option ArrayBytes) (s : State) : (verifyHead e r s).config = s.config := by rw [verifyHead_frame]
@[simp] theorem verifyHead_block (e : WriteEntry) (r : Option ArrayBytes) (s : State) : (verifyHead e r s).block = s.block := by rw [verifyHead_frame]
@[simp] theorem verifyHead_blockWrite (e : WriteEntry) (r : Option ArrayBytes) (s : State) : (verifyHead e r s).blockWrite = s.blockWrite := by rw [verifyHead_frame]
@[simp] theorem verifyHead_scanner (e : WriteEntry) (r : Option ArrayBytes) (s : State) : (verifyHead e r s).scanner = s.scanner := by rw [verifyHead_frame]
@[simp] theorem verifyHead_resolver (e : WriteEntry) (r : Option ArrayBytes) (s : State) : (verifyHead e r s).resolver = s.resolver := by rw [verifyHead_frame]
@[simp] theorem verifyHead_sequencer (e : WriteEntry) (r : Option ArrayBytes) (s : State) : (verifyHead e r s).sequencer = s.sequencer := by rw [verifyHead_frame]
@[simp] theorem verifyHead_link (e : WriteEntry) (r : Option ArrayBytes) (s : State) : (verifyHead e r s).link = s.link := by rw [verifyHead_frame]
@[simp] theorem verifyHead_outputs (e : WriteEntry) (r : Option ArrayBytes) (s : State) : (verifyHead e r s).outputs = s.outputs := by rw [verifyHead_frame]
@[simp] theorem verifyHead_faults (e : WriteEntry) (r : Option ArrayBytes) (s : State) : (verifyHead e r s).faults = s.faults := by rw [verifyHead_frame]
@[simp] theorem verifyHead_service (e : WriteEntry) (r : Option ArrayBytes) (s : State) : (verifyHead e r s).service = s.service := by rw [verifyHead_frame]
@[simp] theorem verifyHead_shoe (e : WriteEntry) (r : Option ArrayBytes) (s : State) : (verifyHead e r s).shoe = s.shoe := by rw [verifyHead_frame]
@[simp] theorem verifyHead_freeNext (e : WriteEntry) (r : Option ArrayBytes) (s : State) : (verifyHead e r s).freeNext = s.freeNext := by rw [verifyHead_frame]
@[simp] theorem verifyHead_pending (e : WriteEntry) (r : Option ArrayBytes) (s : State) : (verifyHead e r s).pending = s.pending := by rw [verifyHead_frame]

/-- What `forcingEnds` may change: store, link, faults. -/
theorem forcingEnds_frame (e : WriteEntry) (r : Option ArrayBytes) (s : State) :
    forcingEnds e r s = { s with store := (forcingEnds e r s).store, link := (forcingEnds e r s).link, faults := (forcingEnds e r s).faults } := by
  unfold forcingEnds; dsimp only; rw [writeDone_frame, setFlag_frame]

@[simp] theorem forcingEnds_node (e : WriteEntry) (r : Option ArrayBytes) (s : State) : (forcingEnds e r s).node = s.node := by rw [forcingEnds_frame]
@[simp] theorem forcingEnds_pins (e : WriteEntry) (r : Option ArrayBytes) (s : State) : (forcingEnds e r s).pins = s.pins := by rw [forcingEnds_frame]
@[simp] theorem forcingEnds_straps (e : WriteEntry) (r : Option ArrayBytes) (s : State) : (forcingEnds e r s).straps = s.straps := by rw [forcingEnds_frame]
@[simp] theorem forcingEnds_config (e : WriteEntry) (r : Option ArrayBytes) (s : State) : (forcingEnds e r s).config = s.config := by rw [forcingEnds_frame]
@[simp] theorem forcingEnds_block (e : WriteEntry) (r : Option ArrayBytes) (s : State) : (forcingEnds e r s).block = s.block := by rw [forcingEnds_frame]
@[simp] theorem forcingEnds_blockWrite (e : WriteEntry) (r : Option ArrayBytes) (s : State) : (forcingEnds e r s).blockWrite = s.blockWrite := by rw [forcingEnds_frame]
@[simp] theorem forcingEnds_scanner (e : WriteEntry) (r : Option ArrayBytes) (s : State) : (forcingEnds e r s).scanner = s.scanner := by rw [forcingEnds_frame]
@[simp] theorem forcingEnds_resolver (e : WriteEntry) (r : Option ArrayBytes) (s : State) : (forcingEnds e r s).resolver = s.resolver := by rw [forcingEnds_frame]
@[simp] theorem forcingEnds_sequencer (e : WriteEntry) (r : Option ArrayBytes) (s : State) : (forcingEnds e r s).sequencer = s.sequencer := by rw [forcingEnds_frame]
@[simp] theorem forcingEnds_outputs (e : WriteEntry) (r : Option ArrayBytes) (s : State) : (forcingEnds e r s).outputs = s.outputs := by rw [forcingEnds_frame]
@[simp] theorem forcingEnds_service (e : WriteEntry) (r : Option ArrayBytes) (s : State) : (forcingEnds e r s).service = s.service := by rw [forcingEnds_frame]
@[simp] theorem forcingEnds_shoe (e : WriteEntry) (r : Option ArrayBytes) (s : State) : (forcingEnds e r s).shoe = s.shoe := by rw [forcingEnds_frame]
@[simp] theorem forcingEnds_freeNext (e : WriteEntry) (r : Option ArrayBytes) (s : State) : (forcingEnds e r s).freeNext = s.freeNext := by rw [forcingEnds_frame]
@[simp] theorem forcingEnds_pending (e : WriteEntry) (r : Option ArrayBytes) (s : State) : (forcingEnds e r s).pending = s.pending := by rw [forcingEnds_frame]

/-- What `reloadSets` may change: resolver, outputs. -/
theorem reloadSets_frame (i : Nat) (s : State) :
    reloadSets i s = { s with resolver := (reloadSets i s).resolver, outputs := (reloadSets i s).outputs } := by
  unfold reloadSets; split
  · rw [refreshSpeaking_frame]; simp
  · split
    · rw [refreshSpeaking_frame]; simp
    · rfl

@[simp] theorem reloadSets_node (i : Nat) (s : State) : (reloadSets i s).node = s.node := by rw [reloadSets_frame]
@[simp] theorem reloadSets_pins (i : Nat) (s : State) : (reloadSets i s).pins = s.pins := by rw [reloadSets_frame]
@[simp] theorem reloadSets_straps (i : Nat) (s : State) : (reloadSets i s).straps = s.straps := by rw [reloadSets_frame]
@[simp] theorem reloadSets_config (i : Nat) (s : State) : (reloadSets i s).config = s.config := by rw [reloadSets_frame]
@[simp] theorem reloadSets_block (i : Nat) (s : State) : (reloadSets i s).block = s.block := by rw [reloadSets_frame]
@[simp] theorem reloadSets_blockWrite (i : Nat) (s : State) : (reloadSets i s).blockWrite = s.blockWrite := by rw [reloadSets_frame]
@[simp] theorem reloadSets_store (i : Nat) (s : State) : (reloadSets i s).store = s.store := by rw [reloadSets_frame]
@[simp] theorem reloadSets_scanner (i : Nat) (s : State) : (reloadSets i s).scanner = s.scanner := by rw [reloadSets_frame]
@[simp] theorem reloadSets_sequencer (i : Nat) (s : State) : (reloadSets i s).sequencer = s.sequencer := by rw [reloadSets_frame]
@[simp] theorem reloadSets_link (i : Nat) (s : State) : (reloadSets i s).link = s.link := by rw [reloadSets_frame]
@[simp] theorem reloadSets_faults (i : Nat) (s : State) : (reloadSets i s).faults = s.faults := by rw [reloadSets_frame]
@[simp] theorem reloadSets_service (i : Nat) (s : State) : (reloadSets i s).service = s.service := by rw [reloadSets_frame]
@[simp] theorem reloadSets_shoe (i : Nat) (s : State) : (reloadSets i s).shoe = s.shoe := by rw [reloadSets_frame]
@[simp] theorem reloadSets_freeNext (i : Nat) (s : State) : (reloadSets i s).freeNext = s.freeNext := by rw [reloadSets_frame]
@[simp] theorem reloadSets_pending (i : Nat) (s : State) : (reloadSets i s).pending = s.pending := by rw [reloadSets_frame]

/-- What `offerShoe` may change: link, faults. -/
theorem offerShoe_frame (s : State) :
    offerShoe s = { s with link := (offerShoe s).link, faults := (offerShoe s).faults } := by
  unfold offerShoe; exact offer_fst_frame _ _

@[simp] theorem offerShoe_node (s : State) : (offerShoe s).node = s.node := by rw [offerShoe_frame]
@[simp] theorem offerShoe_pins (s : State) : (offerShoe s).pins = s.pins := by rw [offerShoe_frame]
@[simp] theorem offerShoe_straps (s : State) : (offerShoe s).straps = s.straps := by rw [offerShoe_frame]
@[simp] theorem offerShoe_config (s : State) : (offerShoe s).config = s.config := by rw [offerShoe_frame]
@[simp] theorem offerShoe_block (s : State) : (offerShoe s).block = s.block := by rw [offerShoe_frame]
@[simp] theorem offerShoe_blockWrite (s : State) : (offerShoe s).blockWrite = s.blockWrite := by rw [offerShoe_frame]
@[simp] theorem offerShoe_store (s : State) : (offerShoe s).store = s.store := by rw [offerShoe_frame]
@[simp] theorem offerShoe_scanner (s : State) : (offerShoe s).scanner = s.scanner := by rw [offerShoe_frame]
@[simp] theorem offerShoe_resolver (s : State) : (offerShoe s).resolver = s.resolver := by rw [offerShoe_frame]
@[simp] theorem offerShoe_sequencer (s : State) : (offerShoe s).sequencer = s.sequencer := by rw [offerShoe_frame]
@[simp] theorem offerShoe_outputs (s : State) : (offerShoe s).outputs = s.outputs := by rw [offerShoe_frame]
@[simp] theorem offerShoe_service (s : State) : (offerShoe s).service = s.service := by rw [offerShoe_frame]
@[simp] theorem offerShoe_shoe (s : State) : (offerShoe s).shoe = s.shoe := by rw [offerShoe_frame]
@[simp] theorem offerShoe_freeNext (s : State) : (offerShoe s).freeNext = s.freeNext := by rw [offerShoe_frame]
@[simp] theorem offerShoe_pending (s : State) : (offerShoe s).pending = s.pending := by rw [offerShoe_frame]

/-- What `firstSample` may change: link, faults, shoe. -/
theorem firstSample_frame (c : ShoeConfig) (x : Nat) (s : State) :
    firstSample c x s = { s with link := (firstSample c x s).link, faults := (firstSample c x s).faults, shoe := (firstSample c x s).shoe } := by
  unfold firstSample; dsimp only; rw [offerShoe_frame]

@[simp] theorem firstSample_node (c : ShoeConfig) (x : Nat) (s : State) : (firstSample c x s).node = s.node := by rw [firstSample_frame]
@[simp] theorem firstSample_pins (c : ShoeConfig) (x : Nat) (s : State) : (firstSample c x s).pins = s.pins := by rw [firstSample_frame]
@[simp] theorem firstSample_straps (c : ShoeConfig) (x : Nat) (s : State) : (firstSample c x s).straps = s.straps := by rw [firstSample_frame]
@[simp] theorem firstSample_config (c : ShoeConfig) (x : Nat) (s : State) : (firstSample c x s).config = s.config := by rw [firstSample_frame]
@[simp] theorem firstSample_block (c : ShoeConfig) (x : Nat) (s : State) : (firstSample c x s).block = s.block := by rw [firstSample_frame]
@[simp] theorem firstSample_blockWrite (c : ShoeConfig) (x : Nat) (s : State) : (firstSample c x s).blockWrite = s.blockWrite := by rw [firstSample_frame]
@[simp] theorem firstSample_store (c : ShoeConfig) (x : Nat) (s : State) : (firstSample c x s).store = s.store := by rw [firstSample_frame]
@[simp] theorem firstSample_scanner (c : ShoeConfig) (x : Nat) (s : State) : (firstSample c x s).scanner = s.scanner := by rw [firstSample_frame]
@[simp] theorem firstSample_resolver (c : ShoeConfig) (x : Nat) (s : State) : (firstSample c x s).resolver = s.resolver := by rw [firstSample_frame]
@[simp] theorem firstSample_sequencer (c : ShoeConfig) (x : Nat) (s : State) : (firstSample c x s).sequencer = s.sequencer := by rw [firstSample_frame]
@[simp] theorem firstSample_outputs (c : ShoeConfig) (x : Nat) (s : State) : (firstSample c x s).outputs = s.outputs := by rw [firstSample_frame]
@[simp] theorem firstSample_service (c : ShoeConfig) (x : Nat) (s : State) : (firstSample c x s).service = s.service := by rw [firstSample_frame]
@[simp] theorem firstSample_freeNext (c : ShoeConfig) (x : Nat) (s : State) : (firstSample c x s).freeNext = s.freeNext := by rw [firstSample_frame]
@[simp] theorem firstSample_pending (c : ShoeConfig) (x : Nat) (s : State) : (firstSample c x s).pending = s.pending := by rw [firstSample_frame]

/-- What `takeSample` may change: link, faults, shoe. -/
theorem takeSample_frame (c : ShoeConfig) (x : Nat) (s : State) :
    takeSample c x s = { s with link := (takeSample c x s).link, faults := (takeSample c x s).faults, shoe := (takeSample c x s).shoe } := by
  unfold takeSample; dsimp only; split
  · split
    · rfl
    · rw [offerShoe_frame]
  · rw [firstSample_frame]

@[simp] theorem takeSample_node (c : ShoeConfig) (x : Nat) (s : State) : (takeSample c x s).node = s.node := by rw [takeSample_frame]
@[simp] theorem takeSample_pins (c : ShoeConfig) (x : Nat) (s : State) : (takeSample c x s).pins = s.pins := by rw [takeSample_frame]
@[simp] theorem takeSample_straps (c : ShoeConfig) (x : Nat) (s : State) : (takeSample c x s).straps = s.straps := by rw [takeSample_frame]
@[simp] theorem takeSample_config (c : ShoeConfig) (x : Nat) (s : State) : (takeSample c x s).config = s.config := by rw [takeSample_frame]
@[simp] theorem takeSample_block (c : ShoeConfig) (x : Nat) (s : State) : (takeSample c x s).block = s.block := by rw [takeSample_frame]
@[simp] theorem takeSample_blockWrite (c : ShoeConfig) (x : Nat) (s : State) : (takeSample c x s).blockWrite = s.blockWrite := by rw [takeSample_frame]
@[simp] theorem takeSample_store (c : ShoeConfig) (x : Nat) (s : State) : (takeSample c x s).store = s.store := by rw [takeSample_frame]
@[simp] theorem takeSample_scanner (c : ShoeConfig) (x : Nat) (s : State) : (takeSample c x s).scanner = s.scanner := by rw [takeSample_frame]
@[simp] theorem takeSample_resolver (c : ShoeConfig) (x : Nat) (s : State) : (takeSample c x s).resolver = s.resolver := by rw [takeSample_frame]
@[simp] theorem takeSample_sequencer (c : ShoeConfig) (x : Nat) (s : State) : (takeSample c x s).sequencer = s.sequencer := by rw [takeSample_frame]
@[simp] theorem takeSample_outputs (c : ShoeConfig) (x : Nat) (s : State) : (takeSample c x s).outputs = s.outputs := by rw [takeSample_frame]
@[simp] theorem takeSample_service (c : ShoeConfig) (x : Nat) (s : State) : (takeSample c x s).service = s.service := by rw [takeSample_frame]
@[simp] theorem takeSample_freeNext (c : ShoeConfig) (x : Nat) (s : State) : (takeSample c x s).freeNext = s.freeNext := by rw [takeSample_frame]
@[simp] theorem takeSample_pending (c : ShoeConfig) (x : Nat) (s : State) : (takeSample c x s).pending = s.pending := by rw [takeSample_frame]

/-- What `feedSilence` may change: resolver, faults. -/
theorem feedSilence_frame (s : State) :
    feedSilence s = { s with resolver := (feedSilence s).resolver, faults := (feedSilence s).faults } := by
  unfold feedSilence; dsimp only; split <;> rfl

@[simp] theorem feedSilence_node (s : State) : (feedSilence s).node = s.node := by rw [feedSilence_frame]
@[simp] theorem feedSilence_pins (s : State) : (feedSilence s).pins = s.pins := by rw [feedSilence_frame]
@[simp] theorem feedSilence_straps (s : State) : (feedSilence s).straps = s.straps := by rw [feedSilence_frame]
@[simp] theorem feedSilence_config (s : State) : (feedSilence s).config = s.config := by rw [feedSilence_frame]
@[simp] theorem feedSilence_block (s : State) : (feedSilence s).block = s.block := by rw [feedSilence_frame]
@[simp] theorem feedSilence_blockWrite (s : State) : (feedSilence s).blockWrite = s.blockWrite := by rw [feedSilence_frame]
@[simp] theorem feedSilence_store (s : State) : (feedSilence s).store = s.store := by rw [feedSilence_frame]
@[simp] theorem feedSilence_scanner (s : State) : (feedSilence s).scanner = s.scanner := by rw [feedSilence_frame]
@[simp] theorem feedSilence_sequencer (s : State) : (feedSilence s).sequencer = s.sequencer := by rw [feedSilence_frame]
@[simp] theorem feedSilence_link (s : State) : (feedSilence s).link = s.link := by rw [feedSilence_frame]
@[simp] theorem feedSilence_outputs (s : State) : (feedSilence s).outputs = s.outputs := by rw [feedSilence_frame]
@[simp] theorem feedSilence_service (s : State) : (feedSilence s).service = s.service := by rw [feedSilence_frame]
@[simp] theorem feedSilence_shoe (s : State) : (feedSilence s).shoe = s.shoe := by rw [feedSilence_frame]
@[simp] theorem feedSilence_freeNext (s : State) : (feedSilence s).freeNext = s.freeNext := by rw [feedSilence_frame]
@[simp] theorem feedSilence_pending (s : State) : (feedSilence s).pending = s.pending := by rw [feedSilence_frame]

/-- What `applyStage` may change: resolver, link, faults. -/
theorem applyStage_frame (p k : Nat) (s : State) :
    applyStage p k s = { s with resolver := (applyStage p k s).resolver, link := (applyStage p k s).link, faults := (applyStage p k s).faults } := by
  unfold applyStage; dsimp only; split
  · rfl
  · simp only [loadStage]; rw [readRecord_frame]

@[simp] theorem applyStage_node (p k : Nat) (s : State) : (applyStage p k s).node = s.node := by rw [applyStage_frame]
@[simp] theorem applyStage_pins (p k : Nat) (s : State) : (applyStage p k s).pins = s.pins := by rw [applyStage_frame]
@[simp] theorem applyStage_straps (p k : Nat) (s : State) : (applyStage p k s).straps = s.straps := by rw [applyStage_frame]
@[simp] theorem applyStage_config (p k : Nat) (s : State) : (applyStage p k s).config = s.config := by rw [applyStage_frame]
@[simp] theorem applyStage_block (p k : Nat) (s : State) : (applyStage p k s).block = s.block := by rw [applyStage_frame]
@[simp] theorem applyStage_blockWrite (p k : Nat) (s : State) : (applyStage p k s).blockWrite = s.blockWrite := by rw [applyStage_frame]
@[simp] theorem applyStage_store (p k : Nat) (s : State) : (applyStage p k s).store = s.store := by rw [applyStage_frame]
@[simp] theorem applyStage_scanner (p k : Nat) (s : State) : (applyStage p k s).scanner = s.scanner := by rw [applyStage_frame]
@[simp] theorem applyStage_sequencer (p k : Nat) (s : State) : (applyStage p k s).sequencer = s.sequencer := by rw [applyStage_frame]
@[simp] theorem applyStage_outputs (p k : Nat) (s : State) : (applyStage p k s).outputs = s.outputs := by rw [applyStage_frame]
@[simp] theorem applyStage_service (p k : Nat) (s : State) : (applyStage p k s).service = s.service := by rw [applyStage_frame]
@[simp] theorem applyStage_shoe (p k : Nat) (s : State) : (applyStage p k s).shoe = s.shoe := by rw [applyStage_frame]
@[simp] theorem applyStage_freeNext (p k : Nat) (s : State) : (applyStage p k s).freeNext = s.freeNext := by rw [applyStage_frame]
@[simp] theorem applyStage_pending (p k : Nat) (s : State) : (applyStage p k s).pending = s.pending := by rw [applyStage_frame]

/-- What `hostTakesShoe` may change: link, faults, shoe. -/
theorem hostTakesShoe_frame (a : Address) (p k : Nat) (s : State) :
    hostTakesShoe a p k s = { s with link := (hostTakesShoe a p k s).link, faults := (hostTakesShoe a p k s).faults, shoe := (hostTakesShoe a p k s).shoe } := by
  unfold hostTakesShoe; split
  · rfl
  · split
    · rw [setFlag_frame]
    · split
      · dsimp only; split
        · rfl
        · rw [offerShoe_frame]
      · rfl

@[simp] theorem hostTakesShoe_node (a : Address) (p k : Nat) (s : State) : (hostTakesShoe a p k s).node = s.node := by rw [hostTakesShoe_frame]
@[simp] theorem hostTakesShoe_pins (a : Address) (p k : Nat) (s : State) : (hostTakesShoe a p k s).pins = s.pins := by rw [hostTakesShoe_frame]
@[simp] theorem hostTakesShoe_straps (a : Address) (p k : Nat) (s : State) : (hostTakesShoe a p k s).straps = s.straps := by rw [hostTakesShoe_frame]
@[simp] theorem hostTakesShoe_config (a : Address) (p k : Nat) (s : State) : (hostTakesShoe a p k s).config = s.config := by rw [hostTakesShoe_frame]
@[simp] theorem hostTakesShoe_block (a : Address) (p k : Nat) (s : State) : (hostTakesShoe a p k s).block = s.block := by rw [hostTakesShoe_frame]
@[simp] theorem hostTakesShoe_blockWrite (a : Address) (p k : Nat) (s : State) : (hostTakesShoe a p k s).blockWrite = s.blockWrite := by rw [hostTakesShoe_frame]
@[simp] theorem hostTakesShoe_store (a : Address) (p k : Nat) (s : State) : (hostTakesShoe a p k s).store = s.store := by rw [hostTakesShoe_frame]
@[simp] theorem hostTakesShoe_scanner (a : Address) (p k : Nat) (s : State) : (hostTakesShoe a p k s).scanner = s.scanner := by rw [hostTakesShoe_frame]
@[simp] theorem hostTakesShoe_resolver (a : Address) (p k : Nat) (s : State) : (hostTakesShoe a p k s).resolver = s.resolver := by rw [hostTakesShoe_frame]
@[simp] theorem hostTakesShoe_sequencer (a : Address) (p k : Nat) (s : State) : (hostTakesShoe a p k s).sequencer = s.sequencer := by rw [hostTakesShoe_frame]
@[simp] theorem hostTakesShoe_outputs (a : Address) (p k : Nat) (s : State) : (hostTakesShoe a p k s).outputs = s.outputs := by rw [hostTakesShoe_frame]
@[simp] theorem hostTakesShoe_service (a : Address) (p k : Nat) (s : State) : (hostTakesShoe a p k s).service = s.service := by rw [hostTakesShoe_frame]
@[simp] theorem hostTakesShoe_freeNext (a : Address) (p k : Nat) (s : State) : (hostTakesShoe a p k s).freeNext = s.freeNext := by rw [hostTakesShoe_frame]
@[simp] theorem hostTakesShoe_pending (a : Address) (p k : Nat) (s : State) : (hostTakesShoe a p k s).pending = s.pending := by rw [hostTakesShoe_frame]

/-- What `expireSilence` may change: resolver, link, faults. -/
theorem expireSilence_frame (s : State) :
    expireSilence s = { s with resolver := (expireSilence s).resolver, link := (expireSilence s).link, faults := (expireSilence s).faults } := by
  unfold expireSilence; rw [setFlag_frame]

@[simp] theorem expireSilence_node (s : State) : (expireSilence s).node = s.node := by rw [expireSilence_frame]
@[simp] theorem expireSilence_pins (s : State) : (expireSilence s).pins = s.pins := by rw [expireSilence_frame]
@[simp] theorem expireSilence_straps (s : State) : (expireSilence s).straps = s.straps := by rw [expireSilence_frame]
@[simp] theorem expireSilence_config (s : State) : (expireSilence s).config = s.config := by rw [expireSilence_frame]
@[simp] theorem expireSilence_block (s : State) : (expireSilence s).block = s.block := by rw [expireSilence_frame]
@[simp] theorem expireSilence_blockWrite (s : State) : (expireSilence s).blockWrite = s.blockWrite := by rw [expireSilence_frame]
@[simp] theorem expireSilence_store (s : State) : (expireSilence s).store = s.store := by rw [expireSilence_frame]
@[simp] theorem expireSilence_scanner (s : State) : (expireSilence s).scanner = s.scanner := by rw [expireSilence_frame]
@[simp] theorem expireSilence_sequencer (s : State) : (expireSilence s).sequencer = s.sequencer := by rw [expireSilence_frame]
@[simp] theorem expireSilence_outputs (s : State) : (expireSilence s).outputs = s.outputs := by rw [expireSilence_frame]
@[simp] theorem expireSilence_service (s : State) : (expireSilence s).service = s.service := by rw [expireSilence_frame]
@[simp] theorem expireSilence_shoe (s : State) : (expireSilence s).shoe = s.shoe := by rw [expireSilence_frame]
@[simp] theorem expireSilence_freeNext (s : State) : (expireSilence s).freeNext = s.freeNext := by rw [expireSilence_frame]
@[simp] theorem expireSilence_pending (s : State) : (expireSilence s).pending = s.pending := by rw [expireSilence_frame]

/-- What `drawByHand` may change: resolver, link, outputs, faults. -/
theorem drawByHand_frame (n : StopNo) (b : Bool) (s : State) :
    drawByHand n b s = { s with resolver := (drawByHand n b s).resolver, link := (drawByHand n b s).link, outputs := (drawByHand n b s).outputs, faults := (drawByHand n b s).faults } := by
  unfold drawByHand; split
  · rfl
  · rw [checkDivisional_frame, checkGeneral_frame, refreshSpeaking_frame]

@[simp] theorem drawByHand_node (n : StopNo) (b : Bool) (s : State) : (drawByHand n b s).node = s.node := by rw [drawByHand_frame]
@[simp] theorem drawByHand_pins (n : StopNo) (b : Bool) (s : State) : (drawByHand n b s).pins = s.pins := by rw [drawByHand_frame]
@[simp] theorem drawByHand_straps (n : StopNo) (b : Bool) (s : State) : (drawByHand n b s).straps = s.straps := by rw [drawByHand_frame]
@[simp] theorem drawByHand_config (n : StopNo) (b : Bool) (s : State) : (drawByHand n b s).config = s.config := by rw [drawByHand_frame]
@[simp] theorem drawByHand_block (n : StopNo) (b : Bool) (s : State) : (drawByHand n b s).block = s.block := by rw [drawByHand_frame]
@[simp] theorem drawByHand_blockWrite (n : StopNo) (b : Bool) (s : State) : (drawByHand n b s).blockWrite = s.blockWrite := by rw [drawByHand_frame]
@[simp] theorem drawByHand_store (n : StopNo) (b : Bool) (s : State) : (drawByHand n b s).store = s.store := by rw [drawByHand_frame]
@[simp] theorem drawByHand_scanner (n : StopNo) (b : Bool) (s : State) : (drawByHand n b s).scanner = s.scanner := by rw [drawByHand_frame]
@[simp] theorem drawByHand_sequencer (n : StopNo) (b : Bool) (s : State) : (drawByHand n b s).sequencer = s.sequencer := by rw [drawByHand_frame]
@[simp] theorem drawByHand_service (n : StopNo) (b : Bool) (s : State) : (drawByHand n b s).service = s.service := by rw [drawByHand_frame]
@[simp] theorem drawByHand_shoe (n : StopNo) (b : Bool) (s : State) : (drawByHand n b s).shoe = s.shoe := by rw [drawByHand_frame]
@[simp] theorem drawByHand_freeNext (n : StopNo) (b : Bool) (s : State) : (drawByHand n b s).freeNext = s.freeNext := by rw [drawByHand_frame]
@[simp] theorem drawByHand_pending (n : StopNo) (b : Bool) (s : State) : (drawByHand n b s).pending = s.pending := by rw [drawByHand_frame]

/-- What `senseReport` may change: resolver, sequencer, link, outputs, faults. -/
theorem senseReport_frame (n : StopNo) (b : Bool) (s : State) :
    senseReport n b s = { s with resolver := (senseReport n b s).resolver, sequencer := (senseReport n b s).sequencer, link := (senseReport n b s).link, outputs := (senseReport n b s).outputs, faults := (senseReport n b s).faults } := by
  unfold senseReport; split
  · rfl
  · split
    · split
      · split
        · rw [drawByHand_frame, withSequencer_frame]
        · rw [startRule_frame, drawByHand_frame, withSequencer_frame]
      · rfl
    · rw [refreshSpeaking_frame]
    · rfl

@[simp] theorem senseReport_node (n : StopNo) (b : Bool) (s : State) : (senseReport n b s).node = s.node := by rw [senseReport_frame]
@[simp] theorem senseReport_pins (n : StopNo) (b : Bool) (s : State) : (senseReport n b s).pins = s.pins := by rw [senseReport_frame]
@[simp] theorem senseReport_straps (n : StopNo) (b : Bool) (s : State) : (senseReport n b s).straps = s.straps := by rw [senseReport_frame]
@[simp] theorem senseReport_config (n : StopNo) (b : Bool) (s : State) : (senseReport n b s).config = s.config := by rw [senseReport_frame]
@[simp] theorem senseReport_block (n : StopNo) (b : Bool) (s : State) : (senseReport n b s).block = s.block := by rw [senseReport_frame]
@[simp] theorem senseReport_blockWrite (n : StopNo) (b : Bool) (s : State) : (senseReport n b s).blockWrite = s.blockWrite := by rw [senseReport_frame]
@[simp] theorem senseReport_store (n : StopNo) (b : Bool) (s : State) : (senseReport n b s).store = s.store := by rw [senseReport_frame]
@[simp] theorem senseReport_scanner (n : StopNo) (b : Bool) (s : State) : (senseReport n b s).scanner = s.scanner := by rw [senseReport_frame]
@[simp] theorem senseReport_service (n : StopNo) (b : Bool) (s : State) : (senseReport n b s).service = s.service := by rw [senseReport_frame]
@[simp] theorem senseReport_shoe (n : StopNo) (b : Bool) (s : State) : (senseReport n b s).shoe = s.shoe := by rw [senseReport_frame]
@[simp] theorem senseReport_freeNext (n : StopNo) (b : Bool) (s : State) : (senseReport n b s).freeNext = s.freeNext := by rw [senseReport_frame]
@[simp] theorem senseReport_pending (n : StopNo) (b : Bool) (s : State) : (senseReport n b s).pending = s.pending := by rw [senseReport_frame]

end Sys2Proof.Machine
end

