-- ==== Sys2Proof/Laws/Memory.lean ====
section
/-! SUPPORT. The record array: a read after a write, and that every operation keeps the canonical form. -/

namespace Sys2Proof.Machine

/-- Every index listed is above `i`. -/
def Memory.above (i : Nat) (m : Memory) : Prop := ∀ c ∈ m, i < c.1

theorem Memory.wf_cons {i : Nat} {r : Record} {m : Memory} :
    Memory.wf ((i, r) :: m) = true ↔ r ≠ Record.factory ∧ Memory.above i m ∧ Memory.wf m = true := by
  simp [Memory.wf, Memory.above, and_assoc]

theorem Memory.read_nil (i : Nat) : Memory.read [] i = Record.factory := rfl

theorem Memory.read_cons (j : Nat) (r : Record) (m : Memory) (i : Nat) :
    Memory.read ((j, r) :: m) i = if j = i then r else Memory.read m i := by
  unfold Memory.read
  by_cases h : j = i <;> simp [h]

/-- An index below every listed one reads as the factory record. -/
theorem Memory.read_of_above {i : Nat} {m : Memory} (h : Memory.above i m) : m.read i = Record.factory := by
  induction m with
  | nil => rfl
  | cons c m ih =>
    obtain ⟨j, r⟩ := c
    have hj : i < j := h (j, r) (by simp)
    rw [Memory.read_cons, if_neg (by omega)]
    exact ih fun c hc => h c (by simp [hc])

theorem Memory.above_trans {i j : Nat} {m : Memory} (h : i < j) (hm : Memory.above j m) : Memory.above i m :=
  fun c hc => Nat.lt_trans h (hm c hc)

theorem Memory.above_write {j i : Nat} {r : Record} {m : Memory} (hm : Memory.above j m) (h : j < i) :
    Memory.above j (m.write i r) := by
  induction m with
  | nil => unfold Memory.write; split <;> simp [Memory.above, h]
  | cons c m ih =>
    obtain ⟨k, q⟩ := c
    have hk : j < k := hm (k, q) (by simp)
    have hm' : Memory.above j m := fun c hc => hm c (by simp [hc])
    unfold Memory.write
    split
    · split
      · exact hm
      · intro c hc
        rcases List.mem_cons.1 hc with rfl | hc
        · exact h
        · exact hm c hc
    · split
      · split
        · exact hm'
        · intro c hc
          rcases List.mem_cons.1 hc with rfl | hc
          · exact h
          · exact hm' c hc
      · intro c hc
        rcases List.mem_cons.1 hc with rfl | hc
        · exact hk
        · exact ih hm' c hc

/-- A write keeps the canonical form. -/
theorem Memory.write_wf {m : Memory} (i : Nat) (r : Record) (h : m.wf = true) : (m.write i r).wf = true := by
  induction m with
  | nil => unfold Memory.write; split <;> simp_all [Memory.wf]
  | cons c m ih =>
    obtain ⟨j, q⟩ := c
    obtain ⟨hq, hm, hw⟩ := Memory.wf_cons.1 h
    unfold Memory.write
    split
    · split
      · exact h
      · refine Memory.wf_cons.2 ⟨‹_›, fun c hc => ?_, h⟩
        rcases List.mem_cons.1 hc with rfl | hc
        · assumption
        · exact Nat.lt_trans ‹_› (hm c hc)
    · split
      · subst i
        split
        · exact hw
        · exact Memory.wf_cons.2 ⟨‹_›, hm, hw⟩
      · exact Memory.wf_cons.2 ⟨hq, Memory.above_write hm (by omega), ih hw⟩

/-- Reading the index just written gives the record written. -/
theorem Memory.read_write_same {m : Memory} (i : Nat) (r : Record) (h : m.wf = true) : (m.write i r).read i = r := by
  induction m with
  | nil => unfold Memory.write; split <;> simp_all [Memory.read_cons, Memory.read_nil]
  | cons c m ih =>
    obtain ⟨j, q⟩ := c
    obtain ⟨-, hm, hw⟩ := Memory.wf_cons.1 h
    unfold Memory.write
    split
    · split
      · rw [Memory.read_cons, if_neg (by omega), Memory.read_of_above (Memory.above_trans ‹_› hm)]; simp_all
      · rw [Memory.read_cons, if_pos rfl]
    · split
      · subst i
        split
        · rw [Memory.read_of_above hm]; simp_all
        · rw [Memory.read_cons, if_pos rfl]
      · rw [Memory.read_cons, if_neg (by omega)]
        exact ih hw

/-- Reading another index gives what reading it before gave. -/
theorem Memory.read_write_other {m : Memory} {i k : Nat} (r : Record) (h : m.wf = true) (hk : k ≠ i) :
    (m.write i r).read k = m.read k := by
  induction m with
  | nil => unfold Memory.write; split <;> simp [Memory.read_cons, Memory.read_nil, hk.symm]
  | cons c m ih =>
    obtain ⟨j, q⟩ := c
    obtain ⟨-, hm, hw⟩ := Memory.wf_cons.1 h
    unfold Memory.write
    split
    · split
      · rfl
      · rw [Memory.read_cons, if_neg (by omega)]
    · split
      · subst i
        split
        · rw [Memory.read_cons, if_neg (by omega)]
        · rw [Memory.read_cons, Memory.read_cons, if_neg (by omega), if_neg (by omega)]
      · rw [Memory.read_cons, Memory.read_cons, ih hw]

theorem Memory.above_update {i : Nat} {m : Memory} (f : Nat → Record → Record) (h : Memory.above i m) :
    Memory.above i (m.update f) := by
  intro c hc
  obtain ⟨d, hd, he⟩ := List.mem_filterMap.1 hc
  split at he <;> simp at he
  subst he
  exact h d hd

/-- An update keeps the canonical form. -/
theorem Memory.update_wf {m : Memory} (f : Nat → Record → Record) (h : m.wf = true) : (m.update f).wf = true := by
  induction m with
  | nil => rfl
  | cons c m ih =>
    obtain ⟨j, q⟩ := c
    obtain ⟨-, hm, hw⟩ := Memory.wf_cons.1 h
    simp only [Memory.update, List.filterMap_cons]
    split
    · exact ih hw
    · rename_i d hd
      split at hd <;> simp at hd
      subst hd
      exact Memory.wf_cons.2 ⟨‹_›, Memory.above_update f hm, ih hw⟩

/-- A read after an update gives the changed record, for an `f` that leaves a factory record as it is. -/
theorem Memory.read_update {m : Memory} (f : Nat → Record → Record) (hf : ∀ i, f i Record.factory = Record.factory)
    (i : Nat) (h : m.wf = true) : (m.update f).read i = f i (m.read i) := by
  induction m with
  | nil => exact (hf i).symm
  | cons c m ih =>
    obtain ⟨j, q⟩ := c
    obtain ⟨-, hm, hw⟩ := Memory.wf_cons.1 h
    have step : Memory.update ((j, q) :: m) f =
        if f j q = Record.factory then Memory.update m f else (j, f j q) :: Memory.update m f := by
      simp only [Memory.update, List.filterMap_cons]
      split <;> rename_i e <;> split at e <;> simp_all
    rw [step, Memory.read_cons]
    by_cases hj : j = i
    · subst hj
      rw [if_pos rfl]
      split
      · rw [Memory.read_of_above (Memory.above_update f hm)]; simp_all
      · rw [Memory.read_cons, if_pos rfl]
    · rw [if_neg hj]
      split
      · exact ih hw
      · rw [Memory.read_cons, if_neg hj]; exact ih hw

/-- The array as a write lands keeps the canonical form. -/
theorem Memory.land_wf {m : Memory} (i : Nat) (a : ArrayBytes) (h : m.wf = true) : (m.land i a).wf = true :=
  Memory.write_wf i _ h

/-- Clearing the changed flags keeps the canonical form (R36). -/
theorem Store.clearChanged_wf {st : Store} (h : st.array.wf = true) : st.clearChanged.array.wf = true := by
  exact Memory.update_wf (fun i r => if st.captureInProgress = some i then r else { r with changed := false }) h

/-- What clearing the changed flags leaves of a record (R36). -/
theorem Store.read_clearChanged {st : Store} (i : Nat) (h : st.array.wf = true) :
    st.clearChanged.array.read i =
      if st.captureInProgress = some i then st.array.read i else { st.array.read i with changed := false } := by
  unfold Store.clearChanged
  rw [Memory.read_update _ _ _ h]
  intro i; split <;> rfl

end Sys2Proof.Machine
end

