-- ==== Sys2Proof/Laws/Ops.lean ====
section
/-! SUPPORT. Everything each shared operation can do, said once. -/

namespace Sys2Proof.Machine

/-- An attempt starts on an idle link, with the head marked under way and its payload bound; otherwise nothing
happens (R170). -/
theorem startAttempt_cases (s : State) :
    startAttempt s = s ∨
      ∃ e q, s.link.queue = e :: q ∧ s.link.line = .idle ∧ s.live = true ∧
        startAttempt s = { s with link := { s.link with
          line := .frame, sending := some (e.body.frame s), queue := { e with underWay := true } :: q } } := by
  unfold startAttempt
  split
  · exact .inl rfl
  · rename_i e q h
    split
    · rename_i hl
      exact .inr ⟨e, q, h, hl.1, hl.2, rfl⟩
    · exact .inl rfl

/-- No attempt starts but on an idle link (R170). -/
theorem startAttempt_of_line {s : State} (h : s.link.line ≠ .idle) : startAttempt s = s := by
  rcases startAttempt_cases s with h' | ⟨_, _, _, h', _⟩
  · exact h'
  · exact absurd h' h

/-- A frame joins the queue, and nothing else happens, while the link is not idle (R181). -/
theorem joinQueue_of_line {b : Body} {s : State} (h : s.link.line ≠ .idle) :
    joinQueue b s = { s with link := { s.link with
      queue := insertEntry ⟨b, s.link.admitted, false, false⟩ s.link.queue, admitted := s.link.admitted + 1 } } := by
  unfold joinQueue
  exact startAttempt_of_line h

/-- An offer of a FAULT-NOTE is merged, admitted or refused (R182, R184, R199, R201). -/
theorem offerNote_cases (s : State) :
    (holdsNote s.link.queue = true ∧
        offerNote s = setNotePending false { s with link := { s.link with queue := mergeNote s.link.queue } }) ∨
      (holdsNote s.link.queue = false ∧ hasPlace s.link.queue = true ∧
        offerNote s = joinQueue .faultNote (setNotePending false s)) ∨
      (holdsNote s.link.queue = false ∧ hasPlace s.link.queue = false ∧ s.faults.has .txOverflow = true ∧
        offerNote s = setNotePending true s) ∨
      (holdsNote s.link.queue = false ∧ hasPlace s.link.queue = false ∧ s.faults.has .txOverflow = false ∧
        offerNote s = raiseFlag .txOverflow (setNotePending true s)) := by
  unfold offerNote
  cases holdsNote s.link.queue <;> cases hasPlace s.link.queue <;> cases s.faults.has .txOverflow <;> simp

/-- A call offers a FAULT-NOTE unless one is already owed (R199). -/
theorem noteCall_cases (s : State) :
    (s.faults.notePending = true ∧ noteCall s = s) ∨
      (s.faults.notePending = false ∧ noteCall s = offerNote (setNotePending true s)) := by
  unfold noteCall
  cases s.faults.notePending <;> simp

/-- A report changes nothing in STARTING or where the flag is set; otherwise it raises the flag and makes a call
(R193, R194). -/
theorem setFlag_cases (f : Flag) (s : State) :
    ((s.live = false ∨ s.faults.has f = true) ∧ setFlag f s = s) ∨
      (s.live = true ∧ s.faults.has f = false ∧ setFlag f s = noteCall (raiseFlag f s)) := by
  unfold setFlag
  cases s.live <;> cases s.faults.has f <;> simp

/-- A report of a flag already set changes nothing (R193). -/
theorem setFlag_of_has {f : Flag} {s : State} (h : s.faults.has f = true) : setFlag f s = s := by
  simp [setFlag, h]

/-- An offer of a frame that is no SHOE and no CANCEL is admitted to a free place or refused (R182). -/
theorem offer_plain {b : Body} (hs : b.isShoe = false) (hc : b.isCancel = false) (s : State) :
    offer b s = if hasPlace s.link.queue then (joinQueue b s, true) else (setFlag .txOverflow s, false) := by
  cases b <;> simp_all [offer, Body.isShoe, Body.isCancel]

/-- A CANCEL is always admitted, by eviction where the queue is full (R182, R185). -/
theorem offer_cancel (sc : Scope) (d : Byte) (s : State) :
    offer (.cancel sc d) s =
      if hasPlace s.link.queue then (joinQueue (.cancel sc d) s, true) else (evictFor (.cancel sc d) s, true) := by
  simp [offer, Body.isCancel]

/-- Parts are offered one after another, each while one may be offered; they end at the number of places, or where
none may be offered (R212). -/
theorem offerParts_cases (places : Nat) (s : State) :
    ∃ n, n ≤ places ∧ offerParts places s = offerNextPart^[n] s ∧
      (∀ k, k < n → (offerNextPart^[k] s).partMayBeOffered = true) ∧
      (n = places ∨ (offerNextPart^[n] s).partMayBeOffered = false) := by
  induction places generalizing s with
  | zero => exact ⟨0, le_rfl, rfl, by simp, .inl rfl⟩
  | succ places ih =>
    unfold offerParts
    cases h : s.partMayBeOffered
    · exact ⟨0, Nat.zero_le _, by simp, by simp, .inr h⟩
    · obtain ⟨n, hn, he, hk, hend⟩ := ih (offerNextPart s)
      refine ⟨n + 1, by omega, by simpa using he, ?_, ?_⟩
      · rintro (_ | k) hlt
        · exact h
        · exact hk k (by omega)
      · rcases hend with rfl | hend
        · exact .inl rfl
        · exact .inr hend

@[simp] theorem Body.updated_kind (p k : Byte) (b : Body) : (b.updated p k).kind = b.kind := by cases b <;> rfl
@[simp] theorem Body.updated_cls (p k : Byte) (b : Body) : (b.updated p k).cls = b.cls := by simp [Body.cls]
@[simp] theorem Body.updated_isShoe (p k : Byte) (b : Body) : (b.updated p k).isShoe = b.isShoe := by cases b <;> rfl
@[simp] theorem Body.updated_isNote (p k : Byte) (b : Body) : (b.updated p k).isNote = b.isNote := by cases b <;> rfl
@[simp] theorem Body.updated_shoeDivisionIs (p k : Byte) (d : Division) (b : Body) :
    (b.updated p k).shoeDivisionIs d = b.shoeDivisionIs d := by cases b <;> rfl
@[simp] theorem updateShoe_length (p k : Byte) (q : List QueueEntry) : (updateShoe p k q).length = q.length := by
  simp [updateShoe]
@[simp] theorem updateShoe_ages (p k : Byte) (q : List QueueEntry) :
    (updateShoe p k q).map QueueEntry.age = q.map QueueEntry.age := by
  simp [updateShoe, Function.comp_def]

/-- A SHOE updates the one the queue holds, or is admitted to a free place, or is refused (R182, R183). -/
theorem offer_shoe (d : Division) (p k : Byte) (s : State) :
    offer (.shoe d p k) s =
      if holdsShoe s.link.queue then ({ s with link := { s.link with queue := updateShoe p k s.link.queue } }, true)
      else if hasPlace s.link.queue then (joinQueue (.shoe d p k) s, true)
      else (setFlag .txOverflow s, false) := rfl

/-- The head leaves the queue; a marked FAULT-NOTE is followed by a new offer (R174, R184). -/
theorem headLeaves_cases (s : State) :
    (s.link.queue = [] ∧ headLeaves s = { s with link := { s.link with sending := none } }) ∨
      ∃ e q, s.link.queue = e :: q ∧
        headLeaves s =
          (if e.body.isNote && e.merged then offerNote else id)
            { s with
              link := { s.link with sending := none, queue := q }
              faults := { s.faults with retryDue := s.faults.notePending } } := by
  unfold headLeaves
  split
  · exact .inl ⟨‹_›, rfl⟩
  · rename_i e q h
    refine .inr ⟨e, q, h, ?_⟩
    cases (e.body.isNote && e.merged) <;> rfl

/-- What a node does with a frame that ends: nothing, or it takes another station's, or its own (R174 to R178). -/
theorem takeFrame_cases (c : Instr) (act : Bool → State → State) (s : State) :
    takeFrame c act s = s ∨
      (s.live = true ∧ c.wellFormed = true ∧ s.link.sending = none ∧ s.link.line ≠ .seeking ∧
        takeFrame c act s = act false { s with link := { s.link with line := .gap }, blockWrite := none }) ∨
      ∃ g, s.live = true ∧ c.wellFormed = true ∧ s.link.sending = some g ∧ frameOf c = some g ∧
        takeFrame c act s =
          act true (headLeaves { s with link := { s.link with line := .gap }, blockWrite := none }) := by
  unfold takeFrame
  split
  · rename_i h
    obtain ⟨hl, hw⟩ := Bool.and_eq_true_iff.1 h
    split
    · rename_i g hg
      split
      · exact .inr (.inr ⟨g, hl, hw, hg, ‹_›, rfl⟩)
      · exact .inl rfl
    · split
      · exact .inl rfl
      · exact .inr (.inl ⟨hl, hw, ‹_›, ‹_›, rfl⟩)
  · exact .inl rfl

/-- A frame of another station, taken. -/
theorem takeFrame_other {c : Instr} {s : State} (act : Bool → State → State) (hl : s.live = true)
    (hw : c.wellFormed = true) (hs : s.link.sending = none) (hk : s.link.line ≠ .seeking) :
    takeFrame c act s = act false { s with link := { s.link with line := .gap }, blockWrite := none } := by
  unfold takeFrame
  rw [hl, hw, hs]
  simp [hk]

/-- The speaking set after a refresh is the one R6 gives, and nothing else of the resolver changes. -/
theorem refreshSpeaking_resolver (s : State) :
    (refreshSpeaking s).resolver = { s.resolver with speaking := s.resolver.speaks s.config.stops } := by
  unfold refreshSpeaking
  dsimp only
  split
  · rename_i h; rw [h]
  · rw [startShift_resolver]

/-- A pass sets the drawn image of every stop below S to its target, and nothing else of the resolver (R10). -/
theorem applyTargets_resolver (g : StopSet) (s : State) :
    (applyTargets g s).resolver =
      { s.resolver with drawn := table fun n => if s.serves n then g[n] else s.resolver.drawn[n] } := by
  unfold applyTargets
  rw [withSequencer_resolver]

/-- A pass leaves the sequencer as the new targets, in stop order, leave it (R10). -/
theorem applyTargets_sequencer (g : StopSet) (s : State) :
    (applyTargets g s).sequencer = passTargets s g s.sequencer := by
  unfold applyTargets withSequencer
  rw [reportStuck_sequencer]

/-- The departure check changes nothing of the resolver but the departed flag of the general reference (R27, R29). -/
theorem checkGeneral_resolver (s : State) :
    (checkGeneral s).resolver = s.resolver ∨
      ∃ r, s.resolver.general = some r ∧
        (checkGeneral s).resolver = { s.resolver with general := some { r with departed := true } } := by
  unfold checkGeneral
  split
  · exact .inl rfl
  · rename_i r h
    split
    · have hf := offer_fst_resolver (.deviate .general r.tag) s
      split <;> rename_i e <;> rw [e] at hf
      · exact .inr ⟨r, h, by simp only at hf ⊢; rw [hf]⟩
      · exact .inl hf
    · exact .inl rfl

/-- The departure check changes nothing of the resolver but the departed flag of the divisional reference
(R27, R29). -/
theorem checkDivisional_resolver (s : State) :
    (checkDivisional s).resolver = s.resolver ∨
      ∃ r, s.resolver.divisional = some r ∧
        (checkDivisional s).resolver = { s.resolver with divisional := some { r with departed := true } } := by
  unfold checkDivisional
  split
  · exact .inl rfl
  · rename_i r h
    split
    · have hf := offer_fst_resolver (.deviate .divisional r.tag) s
      split <;> rename_i e <;> rw [e] at hf
      · exact .inr ⟨r, h, by simp only at hf ⊢; rw [hf]⟩
      · exact .inl hf
    · exact .inl rfl

/-- What holds of the sequencer and is kept by every new target holds after a pass. -/
theorem passTargets_induct {P : Sequencer → Prop} (s : State) (g : StopSet)
    (step : ∀ sq n, P sq → s.serves n = true → P (sq.newTarget n (s.scanner.senses[n]) g[n]))
    {sq : Sequencer} (h : P sq) : P (passTargets s g sq) := by
  unfold passTargets
  generalize List.finRange 64 = l
  induction l generalizing sq with
  | nil => exact h
  | cons n l ih =>
    rw [List.foldl_cons]
    apply ih
    split
    · rename_i hn
      exact step _ _ h (by simp_all)
    · exact h

/-- What holds of the sequencer and is kept by the start of a QUEUED move within the budget holds after the start
rule. -/
theorem startMoves_induct {P : Sequencer → Prop} (budget pulseMs : Nat)
    (step : ∀ sq n d a, P sq → (sq.motions[n]).motion = .queued d a → sq.energized < budget →
      P (sq.withMotion n (.pulsing d a pulseMs)))
    (l : List StopNo) {sq : Sequencer} (h : P sq) : P (startMoves budget pulseMs l sq) := by
  induction l generalizing sq with
  | nil => exact h
  | cons n l ih =>
    unfold startMoves
    split
    · split
      · exact ih (step _ _ _ _ h ‹_› ‹_›)
      · exact h
    · exact ih h

/-- The start rule does nothing where R62 forbids it, and otherwise runs through the move list. -/
theorem startRule_cases (s : State) :
    (s.mayStartMoves = false ∧ startRule s = s) ∨
      (s.mayStartMoves = true ∧
        startRule s =
          { s with sequencer := startMoves s.config.budget s.config.pulseMs s.sequencer.moves s.sequencer }) := by
  unfold startRule
  cases s.mayStartMoves <;> simp

/-- A write starts when the list is not empty, none is in progress, the supply is good and the node plays (R45). -/
theorem startWrite_cases (s : State) :
    startWrite s = s ∨
      ∃ e ws, s.store.writes = e :: ws ∧ s.store.stage = none ∧ s.pins.supplyGood = true ∧ s.live = true ∧
        startWrite s = { s with store := { s.store with
          array := s.store.array.write e.index ((s.store.array.read e.index).begun e.source)
          stage := some .storing } } := by
  unfold startWrite
  split
  · split
    · rename_i e ws hs hw h
      obtain ⟨h1, h2⟩ := Bool.and_eq_true_iff.1 h
      exact .inr ⟨_, _, hw, hs, h1, h2, rfl⟩
    · exact .inl rfl
  · exact .inl rfl

/-- A write offered is admitted, with the list the store decides, or refused with STORE_FULL (R42, R44). -/
theorem offerWrite_cases (i : Nat) (b : EntryBytes) (c : Source) (s : State) :
    (∃ ws, s.store.placeWrite ⟨i, b, c⟩ = some ws ∧
        offerWrite i b c s = (startWrite { s with store := { s.store with writes := ws } }, true)) ∨
      (s.store.placeWrite ⟨i, b, c⟩ = none ∧ offerWrite i b c s = (setFlag .storeFull s, false)) := by
  unfold offerWrite
  cases s.store.placeWrite ⟨i, b, c⟩ <;> simp

/-- The start of a write keeps the array's canonical form. -/
theorem startWrite_wf {s : State} (h : s.store.array.wf = true) : (startWrite s).store.array.wf = true := by
  rcases startWrite_cases s with e | ⟨_, _, _, _, _, _, e⟩ <;> rw [e]
  · exact h
  · exact Memory.write_wf _ _ h

/-- The end of a write keeps the array's canonical form. -/
theorem writeDone_wf {s : State} (h : s.store.array.wf = true) : (writeDone s).store.array.wf = true :=
  startWrite_wf (s := { s with store := { s.store with writes := s.store.writes.drop 1, stage := none } }) h

end Sys2Proof.Machine
end

