-- ==== Sys2Proof/Laws/Commands.lean ====
section
/-! SUPPORT. What the dispatch, the frames and the well-formedness of each command unfold to. -/

namespace Sys2Proof.Machine

@[simp] theorem exec_powerOn (straps : Straps) (s : State) : exec (.powerOn straps) s = execPowerOn straps s := rfl
@[simp] theorem wellFormed_powerOn (straps : Straps) : (Instr.powerOn straps).wellFormed = true := rfl
@[simp] theorem exec_resetLine (straps : Straps) (s : State) : exec (.resetLine straps) s = execResetLine straps s := rfl
@[simp] theorem wellFormed_resetLine (straps : Straps) : (Instr.resetLine straps).wellFormed = true := rfl
@[simp] theorem exec_resetRelease (s : State) : exec (.resetRelease) s = execResetRelease s := rfl
@[simp] theorem wellFormed_resetRelease : (Instr.resetRelease).wellFormed = true := rfl
@[simp] theorem exec_enterRunning (reading : Nat) (s : State) : exec (.enterRunning reading) s = execEnterRunning reading s := rfl
@[simp] theorem wellFormed_enterRunning (x : Nat) :
    (Instr.enterRunning x).wellFormed = (decide (x ≤ 1023)) := rfl
@[simp] theorem exec_enterHandOnly (s : State) : exec (.enterHandOnly) s = execEnterHandOnly s := rfl
@[simp] theorem wellFormed_enterHandOnly : (Instr.enterHandOnly).wellFormed = true := rfl
@[simp] theorem exec_startWaitEnd (s : State) : exec (.startWaitEnd) s = execStartWaitEnd s := rfl
@[simp] theorem wellFormed_startWaitEnd : (Instr.startWaitEnd).wellFormed = true := rfl
@[simp] theorem exec_supplyFall (s : State) : exec (.supplyFall) s = execSupplyFall s := rfl
@[simp] theorem wellFormed_supplyFall : (Instr.supplyFall).wellFormed = true := rfl
@[simp] theorem exec_supplyRecovery (s : State) : exec (.supplyRecovery) s = execSupplyRecovery s := rfl
@[simp] theorem wellFormed_supplyRecovery : (Instr.supplyRecovery).wellFormed = true := rfl
@[simp] theorem exec_cutHoldEnd (s : State) : exec (.cutHoldEnd) s = execCutHoldEnd s := rfl
@[simp] theorem wellFormed_cutHoldEnd : (Instr.cutHoldEnd).wellFormed = true := rfl
@[simp] theorem exec_contactChange (contact : Contact) (closed : Bool) (s : State) : exec (.contactChange contact closed) s = execContactChange contact closed s := rfl
@[simp] theorem wellFormed_contactChange (contact : Contact) (closed : Bool) : (Instr.contactChange contact closed).wellFormed = true := rfl
@[simp] theorem exec_stopSenseChange (n : StopNo) (s : State) : exec (.stopSenseChange n) s = execStopSenseChange n s := rfl
@[simp] theorem wellFormed_stopSenseChange (n : StopNo) : (Instr.stopSenseChange n).wellFormed = true := rfl
@[simp] theorem exec_recallPress (i : Fin 16) (s : State) : exec (.recallPress i) s = execRecallPress i s := rfl
@[simp] theorem wellFormed_recallPress (i : Fin 16) : (Instr.recallPress i).wellFormed = true := rfl
@[simp] theorem exec_capturePress (i : Fin 16) (s : State) : exec (.capturePress i) s = execCapturePress i s := rfl
@[simp] theorem wellFormed_capturePress (i : Fin 16) : (Instr.capturePress i).wellFormed = true := rfl
@[simp] theorem exec_pistonRelease (contact : Contact) (s : State) : exec (.pistonRelease contact) s = execPistonRelease contact s := rfl
@[simp] theorem wellFormed_pistonRelease (c : Contact) :
    (Instr.pistonRelease c).wellFormed = (c.hasLatch) := rfl
@[simp] theorem exec_setPress (j : Fin 8) (s : State) : exec (.setPress j) s = execSetPress j s := rfl
@[simp] theorem wellFormed_setPress (j : Fin 8) : (Instr.setPress j).wellFormed = true := rfl
@[simp] theorem exec_generalCancelPress (j : Fin 8) (s : State) : exec (.generalCancelPress j) s = execGeneralCancelPress j s := rfl
@[simp] theorem wellFormed_generalCancelPress (j : Fin 8) : (Instr.generalCancelPress j).wellFormed = true := rfl
@[simp] theorem exec_divisionalCancelPress (j : Fin 8) (s : State) : exec (.divisionalCancelPress j) s = execDivisionalCancelPress j s := rfl
@[simp] theorem wellFormed_divisionalCancelPress (j : Fin 8) : (Instr.divisionalCancelPress j).wellFormed = true := rfl
@[simp] theorem exec_stepNextPress (j : Fin 8) (s : State) : exec (.stepNextPress j) s = execStepNextPress j s := rfl
@[simp] theorem wellFormed_stepNextPress (j : Fin 8) : (Instr.stepNextPress j).wellFormed = true := rfl
@[simp] theorem exec_stepPrevPress (j : Fin 8) (s : State) : exec (.stepPrevPress j) s = execStepPrevPress j s := rfl
@[simp] theorem wellFormed_stepPrevPress (j : Fin 8) : (Instr.stepPrevPress j).wellFormed = true := rfl
@[simp] theorem exec_levelUpPress (j : Fin 8) (s : State) : exec (.levelUpPress j) s = execLevelUpPress j s := rfl
@[simp] theorem wellFormed_levelUpPress (j : Fin 8) : (Instr.levelUpPress j).wellFormed = true := rfl
@[simp] theorem exec_levelDownPress (j : Fin 8) (s : State) : exec (.levelDownPress j) s = execLevelDownPress j s := rfl
@[simp] theorem wellFormed_levelDownPress (j : Fin 8) : (Instr.levelDownPress j).wellFormed = true := rfl
@[simp] theorem exec_tuttiPress (j : Fin 8) (s : State) : exec (.tuttiPress j) s = execTuttiPress j s := rfl
@[simp] theorem wellFormed_tuttiPress (j : Fin 8) : (Instr.tuttiPress j).wellFormed = true := rfl
@[simp] theorem exec_programPress (j : Fin 8) (s : State) : exec (.programPress j) s = execProgramPress j s := rfl
@[simp] theorem wellFormed_programPress (j : Fin 8) : (Instr.programPress j).wellFormed = true := rfl
@[simp] theorem exec_linkIdle (s : State) : exec (.linkIdle) s = execLinkIdle s := rfl
@[simp] theorem wellFormed_linkIdle : (Instr.linkIdle).wellFormed = true := rfl
@[simp] theorem exec_arbitrationLost (field : BitVec 9) (s : State) : exec (.arbitrationLost field) s = execArbitrationLost field s := rfl
@[simp] theorem wellFormed_arbitrationLost (field : BitVec 9) : (Instr.arbitrationLost field).wellFormed = true := rfl
@[simp] theorem exec_readbackMismatch (s : State) : exec (.readbackMismatch) s = execReadbackMismatch s := rfl
@[simp] theorem wellFormed_readbackMismatch : (Instr.readbackMismatch).wellFormed = true := rfl
@[simp] theorem exec_formatError (bits : List Bool) (s : State) : exec (.formatError bits) s = execFormatError bits s := rfl
@[simp] theorem wellFormed_formatError (bits : List Bool) : (Instr.formatError bits).wellFormed = true := rfl
@[simp] theorem exec_badCheck (bits : List Bool) (s : State) : exec (.badCheck bits) s = execBadCheck bits s := rfl
@[simp] theorem wellFormed_badCheck (bits : List Bool) : (Instr.badCheck bits).wellFormed = true := rfl
@[simp] theorem exec_unknownKind (frame : RawFrame) (s : State) : exec (.unknownKind frame) s = execUnknownKind frame s := rfl
@[simp] theorem frameOf_unknownKind (f : RawFrame) :
    frameOf (.unknownKind f) = some f := rfl
@[simp] theorem wellFormed_unknownKind (f : RawFrame) :
    (Instr.unknownKind f).wellFormed = (decide (f.payload.length ≤ 8)) := rfl
@[simp] theorem exec_generalRecall (sender : Address) (division piston level serial origin : Byte) (s : State) : exec (.generalRecall sender division piston level serial origin) s = execGeneralRecall sender division piston level serial origin s := rfl
@[simp] theorem frameOf_generalRecall (a : Address) (d : Byte) (p : Byte) (l : Byte) (n : Byte) (o : Byte) :
    frameOf (.generalRecall a d p l n o) = some (FrameKind.recall.frame a [0#8, d, p, l, n, o]) := rfl
@[simp] theorem wellFormed_generalRecall (sender : Address) (division piston level serial origin : Byte) : (Instr.generalRecall sender division piston level serial origin).wellFormed = true := rfl
@[simp] theorem exec_divisionalRecall (sender : Address) (division piston level serial origin : Byte) (s : State) : exec (.divisionalRecall sender division piston level serial origin) s = execDivisionalRecall sender division piston level serial origin s := rfl
@[simp] theorem frameOf_divisionalRecall (a : Address) (d : Byte) (p : Byte) (l : Byte) (n : Byte) (o : Byte) :
    frameOf (.divisionalRecall a d p l n o) = some (FrameKind.recall.frame a [1#8, d, p, l, n, o]) := rfl
@[simp] theorem wellFormed_divisionalRecall (sender : Address) (division piston level serial origin : Byte) : (Instr.divisionalRecall sender division piston level serial origin).wellFormed = true := rfl
@[simp] theorem exec_generalCancel (sender : Address) (division : Byte) (s : State) : exec (.generalCancel sender division) s = execGeneralCancel sender division s := rfl
@[simp] theorem frameOf_generalCancel (a : Address) (d : Byte) :
    frameOf (.generalCancel a d) = some (FrameKind.cancel.frame a [0#8, d]) := rfl
@[simp] theorem wellFormed_generalCancel (sender : Address) (division : Byte) : (Instr.generalCancel sender division).wellFormed = true := rfl
@[simp] theorem exec_divisionalCancel (sender : Address) (division : Byte) (s : State) : exec (.divisionalCancel sender division) s = execDivisionalCancel sender division s := rfl
@[simp] theorem frameOf_divisionalCancel (a : Address) (d : Byte) :
    frameOf (.divisionalCancel a d) = some (FrameKind.cancel.frame a [1#8, d]) := rfl
@[simp] theorem wellFormed_divisionalCancel (sender : Address) (division : Byte) : (Instr.divisionalCancel sender division).wellFormed = true := rfl
@[simp] theorem exec_generalCapture (sender : Address) (division piston level serial : Byte) (s : State) : exec (.generalCapture sender division piston level serial) s = execGeneralCapture sender division piston level serial s := rfl
@[simp] theorem frameOf_generalCapture (a : Address) (d : Byte) (p : Byte) (l : Byte) (n : Byte) :
    frameOf (.generalCapture a d p l n) = some (FrameKind.capture.frame a [0#8, d, p, l, n]) := rfl
@[simp] theorem wellFormed_generalCapture (sender : Address) (division piston level serial : Byte) : (Instr.generalCapture sender division piston level serial).wellFormed = true := rfl
@[simp] theorem exec_divisionalCapture (sender : Address) (division piston level serial : Byte) (s : State) : exec (.divisionalCapture sender division piston level serial) s = execDivisionalCapture sender division piston level serial s := rfl
@[simp] theorem frameOf_divisionalCapture (a : Address) (d : Byte) (p : Byte) (l : Byte) (n : Byte) :
    frameOf (.divisionalCapture a d p l n) = some (FrameKind.capture.frame a [1#8, d, p, l, n]) := rfl
@[simp] theorem wellFormed_divisionalCapture (sender : Address) (division piston level serial : Byte) : (Instr.divisionalCapture sender division piston level serial).wellFormed = true := rfl
@[simp] theorem exec_deviate (sender : Address) (scope division tagAddress tagSerial : Byte) (s : State) : exec (.deviate sender scope division tagAddress tagSerial) s = execDeviate sender scope division tagAddress tagSerial s := rfl
@[simp] theorem frameOf_deviate (a : Address) (sc : Byte) (d : Byte) (ta : Byte) (n : Byte) :
    frameOf (.deviate a sc d ta n) = some (FrameKind.deviate.frame a [sc, d, ta, n]) := rfl
@[simp] theorem wellFormed_deviate (sender : Address) (scope division tagAddress tagSerial : Byte) : (Instr.deviate sender scope division tagAddress tagSerial).wellFormed = true := rfl
@[simp] theorem exec_level (sender : Address) (level : Byte) (s : State) : exec (.level sender level) s = execLevel sender level s := rfl
@[simp] theorem frameOf_level (a : Address) (l : Byte) :
    frameOf (.level a l) = some (FrameKind.level.frame a [l]) := rfl
@[simp] theorem wellFormed_level (sender : Address) (level : Byte) : (Instr.level sender level).wellFormed = true := rfl
@[simp] theorem exec_lock (sender : Address) (level locked : Byte) (s : State) : exec (.lock sender level locked) s = execLock sender level locked s := rfl
@[simp] theorem frameOf_lock (a : Address) (l : Byte) (k : Byte) :
    frameOf (.lock a l k) = some (FrameKind.lock.frame a [l, k]) := rfl
@[simp] theorem wellFormed_lock (sender : Address) (level locked : Byte) : (Instr.lock sender level locked).wellFormed = true := rfl
@[simp] theorem exec_shoe (sender : Address) (program stage : Byte) (s : State) : exec (.shoe sender program stage) s = execShoe sender program stage s := rfl
@[simp] theorem frameOf_shoe (a : Address) (p : Byte) (st : Byte) :
    frameOf (.shoe a p st) = some (FrameKind.shoe.frame a [p, st]) := rfl
@[simp] theorem wellFormed_shoe (sender : Address) (program stage : Byte) : (Instr.shoe sender program stage).wellFormed = true := rfl
@[simp] theorem exec_tuttiOn (sender : Address) (state level : Byte) (s : State) : exec (.tuttiOn sender state level) s = execTuttiOn sender state level s := rfl
@[simp] theorem frameOf_tuttiOn (a : Address) (st : Byte) (l : Byte) :
    frameOf (.tuttiOn a st l) = some (FrameKind.tutti.frame a [st, l]) := rfl
@[simp] theorem wellFormed_tuttiOn (x0 : Address) (state : Byte) (x2 : Byte) :
    (Instr.tuttiOn x0 state x2).wellFormed = (state != 0) := rfl
@[simp] theorem exec_tuttiOff (sender : Address) (level : Byte) (s : State) : exec (.tuttiOff sender level) s = execTuttiOff sender level s := rfl
@[simp] theorem frameOf_tuttiOff (a : Address) (l : Byte) :
    frameOf (.tuttiOff a l) = some (FrameKind.tutti.frame a [0#8, l]) := rfl
@[simp] theorem wellFormed_tuttiOff (sender : Address) (level : Byte) : (Instr.tuttiOff sender level).wellFormed = true := rfl
@[simp] theorem exec_serviceModeOn (sender : Address) (target on clearChanged : Byte) (s : State) : exec (.serviceModeOn sender target on clearChanged) s = execServiceModeOn sender target on clearChanged s := rfl
@[simp] theorem frameOf_serviceModeOn (a : Address) (t : Byte) (on : Byte) (c : Byte) :
    frameOf (.serviceModeOn a t on c) = some (FrameKind.serviceMode.frame a [t, on, c]) := rfl
@[simp] theorem wellFormed_serviceModeOn (x0 : Address) (x1 : Byte) (on : Byte) (x3 : Byte) :
    (Instr.serviceModeOn x0 x1 on x3).wellFormed = (on != 0) := rfl
@[simp] theorem exec_serviceModeOff (sender : Address) (target clearChanged : Byte) (s : State) : exec (.serviceModeOff sender target clearChanged) s = execServiceModeOff sender target clearChanged s := rfl
@[simp] theorem frameOf_serviceModeOff (a : Address) (t : Byte) (c : Byte) :
    frameOf (.serviceModeOff a t c) = some (FrameKind.serviceMode.frame a [t, 0#8, c]) := rfl
@[simp] theorem wellFormed_serviceModeOff (sender : Address) (target clearChanged : Byte) : (Instr.serviceModeOff sender target clearChanged).wellFormed = true := rfl
@[simp] theorem exec_storePointRead (sender : Address) (target high low : Byte) (s : State) : exec (.storePointRead sender target high low) s = execStorePointRead sender target high low s := rfl
@[simp] theorem frameOf_storePointRead (a : Address) (t : Byte) (hi : Byte) (lo : Byte) :
    frameOf (.storePointRead a t hi lo) = some (FrameKind.storePoint.frame a [t, 0#8, hi, lo]) := rfl
@[simp] theorem wellFormed_storePointRead (sender : Address) (target high low : Byte) : (Instr.storePointRead sender target high low).wellFormed = true := rfl
@[simp] theorem exec_storePointWrite (sender : Address) (target which high low : Byte) (s : State) : exec (.storePointWrite sender target which high low) s = execStorePointWrite sender target which high low s := rfl
@[simp] theorem frameOf_storePointWrite (a : Address) (t : Byte) (w : Byte) (hi : Byte) (lo : Byte) :
    frameOf (.storePointWrite a t w hi lo) = some (FrameKind.storePoint.frame a [t, w, hi, lo]) := rfl
@[simp] theorem wellFormed_storePointWrite (x0 : Address) (x1 : Byte) (which : Byte) (x3 : Byte) (x4 : Byte) :
    (Instr.storePointWrite x0 x1 which x3 x4).wellFormed = (which != 0) := rfl
@[simp] theorem exec_storeWrite (sender : Address) (target : Byte) (data : List Byte) (s : State) : exec (.storeWrite sender target data) s = execStoreWrite sender target data s := rfl
@[simp] theorem frameOf_storeWrite (a : Address) (t : Byte) (data : List Byte) :
    frameOf (.storeWrite a t data) = some (FrameKind.storeWrite.frame a (t :: data)) := rfl
@[simp] theorem wellFormed_storeWrite (x0 : Address) (x1 : Byte) (data : List Byte) :
    (Instr.storeWrite x0 x1 data).wellFormed = (decide (data.length ≤ 7)) := rfl
@[simp] theorem exec_storeRead (sender : Address) (target count : Byte) (s : State) : exec (.storeRead sender target count) s = execStoreRead sender target count s := rfl
@[simp] theorem frameOf_storeRead (a : Address) (t : Byte) (c : Byte) :
    frameOf (.storeRead a t c) = some (FrameKind.storeRead.frame a [t, c]) := rfl
@[simp] theorem wellFormed_storeRead (sender : Address) (target count : Byte) : (Instr.storeRead sender target count).wellFormed = true := rfl
@[simp] theorem exec_changedScan (sender : Address) (target high low : Byte) (s : State) : exec (.changedScan sender target high low) s = execChangedScan sender target high low s := rfl
@[simp] theorem frameOf_changedScan (a : Address) (t : Byte) (hi : Byte) (lo : Byte) :
    frameOf (.changedScan a t hi lo) = some (FrameKind.changedScan.frame a [t, hi, lo]) := rfl
@[simp] theorem wellFormed_changedScan (sender : Address) (target high low : Byte) : (Instr.changedScan sender target high low).wellFormed = true := rfl
@[simp] theorem exec_configWrite (sender : Address) (target offset : Byte) (data : List Byte) (s : State) : exec (.configWrite sender target offset data) s = execConfigWrite sender target offset data s := rfl
@[simp] theorem frameOf_configWrite (a : Address) (t : Byte) (o : Byte) (data : List Byte) :
    frameOf (.configWrite a t o data) = some (FrameKind.configWrite.frame a (t :: o :: data)) := rfl
@[simp] theorem wellFormed_configWrite (x0 : Address) (x1 : Byte) (x2 : Byte) (data : List Byte) :
    (Instr.configWrite x0 x1 x2 data).wellFormed = (decide (1 ≤ data.length) && decide (data.length ≤ 6)) := rfl
@[simp] theorem exec_faultClear (sender : Address) (target high low : Byte) (s : State) : exec (.faultClear sender target high low) s = execFaultClear sender target high low s := rfl
@[simp] theorem frameOf_faultClear (a : Address) (t : Byte) (hi : Byte) (lo : Byte) :
    frameOf (.faultClear a t hi lo) = some (FrameKind.faultClear.frame a [t, hi, lo]) := rfl
@[simp] theorem wellFormed_faultClear (sender : Address) (target high low : Byte) : (Instr.faultClear sender target high low).wellFormed = true := rfl
@[simp] theorem exec_restart (sender : Address) (target : Byte) (s : State) : exec (.restart sender target) s = execRestart sender target s := rfl
@[simp] theorem frameOf_restart (a : Address) (t : Byte) :
    frameOf (.restart a t) = some (FrameKind.restart.frame a [t]) := rfl
@[simp] theorem wellFormed_restart (sender : Address) (target : Byte) : (Instr.restart sender target).wellFormed = true := rfl
@[simp] theorem exec_faultNote (sender : Address) (high low count : Byte) (s : State) : exec (.faultNote sender high low count) s = execFaultNote sender high low count s := rfl
@[simp] theorem frameOf_faultNote (a : Address) (hi : Byte) (lo : Byte) (c : Byte) :
    frameOf (.faultNote a hi lo c) = some (FrameKind.faultNote.frame a [hi, lo, c]) := rfl
@[simp] theorem wellFormed_faultNote (sender : Address) (high low count : Byte) : (Instr.faultNote sender high low count).wellFormed = true := rfl
@[simp] theorem exec_storeDataTaken (sender : Address) (part : Byte) (data : List Byte) (s : State) : exec (.storeDataTaken sender part data) s = execStoreDataTaken sender part data s := rfl
@[simp] theorem frameOf_storeDataTaken (a : Address) (p : Byte) (data : List Byte) :
    frameOf (.storeDataTaken a p data) = some (FrameKind.storeData.frame a (p :: data)) := rfl
@[simp] theorem wellFormed_storeDataTaken (x0 : Address) (x1 : Byte) (data : List Byte) :
    (Instr.storeDataTaken x0 x1 data).wellFormed = (decide (data.length = 4) || decide (data.length = 6)) := rfl
@[simp] theorem exec_scanReplyTaken (sender : Address) (found high low : Byte) (s : State) : exec (.scanReplyTaken sender found high low) s = execScanReplyTaken sender found high low s := rfl
@[simp] theorem frameOf_scanReplyTaken (a : Address) (found : Byte) (hi : Byte) (lo : Byte) :
    frameOf (.scanReplyTaken a found hi lo) = some (FrameKind.scanReply.frame a [found, hi, lo]) := rfl
@[simp] theorem wellFormed_scanReplyTaken (sender : Address) (found high low : Byte) : (Instr.scanReplyTaken sender found high low).wellFormed = true := rfl
@[simp] theorem exec_storeData (s : State) : exec (.storeData) s = execStoreData s := rfl
@[simp] theorem wellFormed_storeData : (Instr.storeData).wellFormed = true := rfl
@[simp] theorem exec_scanReply (s : State) : exec (.scanReply) s = execScanReply s := rfl
@[simp] theorem wellFormed_scanReply : (Instr.scanReply).wellFormed = true := rfl
@[simp] theorem exec_faultNoteRetry (s : State) : exec (.faultNoteRetry) s = execFaultNoteRetry s := rfl
@[simp] theorem wellFormed_faultNoteRetry : (Instr.faultNoteRetry).wellFormed = true := rfl
@[simp] theorem exec_writeVerify (readBack : Option ArrayBytes) (s : State) : exec (.writeVerify readBack) s = execWriteVerify readBack s := rfl
@[simp] theorem wellFormed_writeVerify (readBack : Option ArrayBytes) : (Instr.writeVerify readBack).wellFormed = true := rfl
@[simp] theorem exec_forcingWriteEnd (held : Option ArrayBytes) (s : State) : exec (.forcingWriteEnd held) s = execForcingWriteEnd held s := rfl
@[simp] theorem wellFormed_forcingWriteEnd (held : Option ArrayBytes) : (Instr.forcingWriteEnd held).wellFormed = true := rfl
@[simp] theorem exec_pulseExpiry (n : StopNo) (s : State) : exec (.pulseExpiry n) s = execPulseExpiry n s := rfl
@[simp] theorem wellFormed_pulseExpiry (n : StopNo) : (Instr.pulseExpiry n).wellFormed = true := rfl
@[simp] theorem exec_settleCheck (n : StopNo) (s : State) : exec (.settleCheck n) s = execSettleCheck n s := rfl
@[simp] theorem wellFormed_settleCheck (n : StopNo) : (Instr.settleCheck n).wellFormed = true := rfl
@[simp] theorem exec_restExpiry (n : StopNo) (s : State) : exec (.restExpiry n) s = execRestExpiry n s := rfl
@[simp] theorem wellFormed_restExpiry (n : StopNo) : (Instr.restExpiry n).wellFormed = true := rfl
@[simp] theorem exec_shoeSample (reading : Nat) (s : State) : exec (.shoeSample reading) s = execShoeSample reading s := rfl
@[simp] theorem wellFormed_shoeSample (x : Nat) :
    (Instr.shoeSample x).wellFormed = (decide (x ≤ 1023)) := rfl
@[simp] theorem exec_followerExpiry (reading : Nat) (s : State) : exec (.followerExpiry reading) s = execFollowerExpiry reading s := rfl
@[simp] theorem wellFormed_followerExpiry (x : Nat) :
    (Instr.followerExpiry x).wellFormed = (decide (x ≤ 1023)) := rfl
@[simp] theorem exec_refreshExpiry (s : State) : exec (.refreshExpiry) s = execRefreshExpiry s := rfl
@[simp] theorem wellFormed_refreshExpiry : (Instr.refreshExpiry).wellFormed = true := rfl
@[simp] theorem exec_silencePeriod (s : State) : exec (.silencePeriod) s = execSilencePeriod s := rfl
@[simp] theorem wellFormed_silencePeriod : (Instr.silencePeriod).wellFormed = true := rfl
@[simp] theorem exec_silenceExpiry (s : State) : exec (.silenceExpiry) s = execSilenceExpiry s := rfl
@[simp] theorem wellFormed_silenceExpiry : (Instr.silenceExpiry).wellFormed = true := rfl
@[simp] theorem exec_shiftEnd (s : State) : exec (.shiftEnd) s = execShiftEnd s := rfl
@[simp] theorem wellFormed_shiftEnd : (Instr.shiftEnd).wellFormed = true := rfl
@[simp] theorem exec_blinkPhase (lamp : BlinkLamp) (s : State) : exec (.blinkPhase lamp) s = execBlinkPhase lamp s := rfl
@[simp] theorem wellFormed_blinkPhase (lamp : BlinkLamp) : (Instr.blinkPhase lamp).wellFormed = true := rfl
@[simp] theorem exec_blinkEnd (i : Fin 16) (s : State) : exec (.blinkEnd i) s = execBlinkEnd i s := rfl
@[simp] theorem wellFormed_blinkEnd (i : Fin 16) : (Instr.blinkEnd i).wellFormed = true := rfl
@[simp] theorem exec_faultPulseEnd (s : State) : exec (.faultPulseEnd) s = execFaultPulseEnd s := rfl
@[simp] theorem wellFormed_faultPulseEnd : (Instr.faultPulseEnd).wellFormed = true := rfl
@[simp] theorem exec_supplyLost (s : State) : exec (.supplyLost) s = execSupplyLost s := rfl
@[simp] theorem wellFormed_supplyLost : (Instr.supplyLost).wellFormed = true := rfl
@[simp] theorem exec_startBitRead (s : State) : exec (.startBitRead) s = execStartBitRead s := rfl
@[simp] theorem wellFormed_startBitRead : (Instr.startBitRead).wellFormed = true := rfl
@[simp] theorem exec_pressIgnored (contact : Contact) (s : State) : exec (.pressIgnored contact) s = execPressIgnored contact s := rfl
@[simp] theorem wellFormed_pressIgnored (c : Contact) :
    (Instr.pressIgnored c).wellFormed = (c.hasLatch) := rfl

end Sys2Proof.Machine
end

