-- ==== Sys2Proof/Laws/PerInstr.lean ====
section
/-! SUPPORT. The family FrameLength: the frame that a well-formed command stands for has at most 8 payload bytes. -/

namespace Sys2Proof.Laws

/-- The frame a well-formed command stands for, if it stands for one, carries at most 8 payload bytes (R164, R168). -/
def FrameLength.Statement (c : Instr) : Prop :=
  c.wellFormed = true → ∀ f, frameOf c = some f → f.payload.length ≤ 8

theorem FrameLength.powerOn (straps : Straps) : FrameLength.Statement (.powerOn straps) := by
  intro _ f e
  cases e

theorem FrameLength.resetLine (straps : Straps) : FrameLength.Statement (.resetLine straps) := by
  intro _ f e
  cases e

theorem FrameLength.resetRelease : FrameLength.Statement (.resetRelease) := by
  intro _ f e
  cases e

theorem FrameLength.enterRunning (reading : Nat) : FrameLength.Statement (.enterRunning reading) := by
  intro _ f e
  cases e

theorem FrameLength.enterHandOnly : FrameLength.Statement (.enterHandOnly) := by
  intro _ f e
  cases e

theorem FrameLength.startWaitEnd : FrameLength.Statement (.startWaitEnd) := by
  intro _ f e
  cases e

theorem FrameLength.supplyFall : FrameLength.Statement (.supplyFall) := by
  intro _ f e
  cases e

theorem FrameLength.supplyRecovery : FrameLength.Statement (.supplyRecovery) := by
  intro _ f e
  cases e

theorem FrameLength.cutHoldEnd : FrameLength.Statement (.cutHoldEnd) := by
  intro _ f e
  cases e

theorem FrameLength.contactChange (contact : Contact) (closed : Bool) : FrameLength.Statement (.contactChange contact closed) := by
  intro _ f e
  cases e

theorem FrameLength.stopSenseChange (n : StopNo) : FrameLength.Statement (.stopSenseChange n) := by
  intro _ f e
  cases e

theorem FrameLength.recallPress (i : Fin 16) : FrameLength.Statement (.recallPress i) := by
  intro _ f e
  cases e

theorem FrameLength.capturePress (i : Fin 16) : FrameLength.Statement (.capturePress i) := by
  intro _ f e
  cases e

theorem FrameLength.pistonRelease (contact : Contact) : FrameLength.Statement (.pistonRelease contact) := by
  intro _ f e
  cases e

theorem FrameLength.setPress (j : Fin 8) : FrameLength.Statement (.setPress j) := by
  intro _ f e
  cases e

theorem FrameLength.generalCancelPress (j : Fin 8) : FrameLength.Statement (.generalCancelPress j) := by
  intro _ f e
  cases e

theorem FrameLength.divisionalCancelPress (j : Fin 8) : FrameLength.Statement (.divisionalCancelPress j) := by
  intro _ f e
  cases e

theorem FrameLength.stepNextPress (j : Fin 8) : FrameLength.Statement (.stepNextPress j) := by
  intro _ f e
  cases e

theorem FrameLength.stepPrevPress (j : Fin 8) : FrameLength.Statement (.stepPrevPress j) := by
  intro _ f e
  cases e

theorem FrameLength.levelUpPress (j : Fin 8) : FrameLength.Statement (.levelUpPress j) := by
  intro _ f e
  cases e

theorem FrameLength.levelDownPress (j : Fin 8) : FrameLength.Statement (.levelDownPress j) := by
  intro _ f e
  cases e

theorem FrameLength.tuttiPress (j : Fin 8) : FrameLength.Statement (.tuttiPress j) := by
  intro _ f e
  cases e

theorem FrameLength.programPress (j : Fin 8) : FrameLength.Statement (.programPress j) := by
  intro _ f e
  cases e

theorem FrameLength.linkIdle : FrameLength.Statement (.linkIdle) := by
  intro _ f e
  cases e

theorem FrameLength.arbitrationLost (field : BitVec 9) : FrameLength.Statement (.arbitrationLost field) := by
  intro _ f e
  cases e

theorem FrameLength.readbackMismatch : FrameLength.Statement (.readbackMismatch) := by
  intro _ f e
  cases e

theorem FrameLength.formatError (bits : List Bool) : FrameLength.Statement (.formatError bits) := by
  intro _ f e
  cases e

theorem FrameLength.badCheck (bits : List Bool) : FrameLength.Statement (.badCheck bits) := by
  intro _ f e
  cases e

theorem FrameLength.unknownKind (frame : RawFrame) : FrameLength.Statement (.unknownKind frame) := by
  intro h f e
  cases e
  exact of_decide_eq_true h

theorem FrameLength.generalRecall (sender : Address) (division piston level serial origin : Byte) : FrameLength.Statement (.generalRecall sender division piston level serial origin) := by
  intro _ f e
  cases e
  simp [FrameKind.frame]

theorem FrameLength.divisionalRecall (sender : Address) (division piston level serial origin : Byte) : FrameLength.Statement (.divisionalRecall sender division piston level serial origin) := by
  intro _ f e
  cases e
  simp [FrameKind.frame]

theorem FrameLength.generalCancel (sender : Address) (division : Byte) : FrameLength.Statement (.generalCancel sender division) := by
  intro _ f e
  cases e
  simp [FrameKind.frame]

theorem FrameLength.divisionalCancel (sender : Address) (division : Byte) : FrameLength.Statement (.divisionalCancel sender division) := by
  intro _ f e
  cases e
  simp [FrameKind.frame]

theorem FrameLength.generalCapture (sender : Address) (division piston level serial : Byte) : FrameLength.Statement (.generalCapture sender division piston level serial) := by
  intro _ f e
  cases e
  simp [FrameKind.frame]

theorem FrameLength.divisionalCapture (sender : Address) (division piston level serial : Byte) : FrameLength.Statement (.divisionalCapture sender division piston level serial) := by
  intro _ f e
  cases e
  simp [FrameKind.frame]

theorem FrameLength.deviate (sender : Address) (scope division tagAddress tagSerial : Byte) : FrameLength.Statement (.deviate sender scope division tagAddress tagSerial) := by
  intro _ f e
  cases e
  simp [FrameKind.frame]

theorem FrameLength.level (sender : Address) (level : Byte) : FrameLength.Statement (.level sender level) := by
  intro _ f e
  cases e
  simp [FrameKind.frame]

theorem FrameLength.lock (sender : Address) (level locked : Byte) : FrameLength.Statement (.lock sender level locked) := by
  intro _ f e
  cases e
  simp [FrameKind.frame]

theorem FrameLength.shoe (sender : Address) (program stage : Byte) : FrameLength.Statement (.shoe sender program stage) := by
  intro _ f e
  cases e
  simp [FrameKind.frame]

theorem FrameLength.tuttiOn (sender : Address) (state level : Byte) : FrameLength.Statement (.tuttiOn sender state level) := by
  intro _ f e
  cases e
  simp [FrameKind.frame]

theorem FrameLength.tuttiOff (sender : Address) (level : Byte) : FrameLength.Statement (.tuttiOff sender level) := by
  intro _ f e
  cases e
  simp [FrameKind.frame]

theorem FrameLength.serviceModeOn (sender : Address) (target on clearChanged : Byte) : FrameLength.Statement (.serviceModeOn sender target on clearChanged) := by
  intro _ f e
  cases e
  simp [FrameKind.frame]

theorem FrameLength.serviceModeOff (sender : Address) (target clearChanged : Byte) : FrameLength.Statement (.serviceModeOff sender target clearChanged) := by
  intro _ f e
  cases e
  simp [FrameKind.frame]

theorem FrameLength.storePointRead (sender : Address) (target high low : Byte) : FrameLength.Statement (.storePointRead sender target high low) := by
  intro _ f e
  cases e
  simp [FrameKind.frame]

theorem FrameLength.storePointWrite (sender : Address) (target which high low : Byte) : FrameLength.Statement (.storePointWrite sender target which high low) := by
  intro _ f e
  cases e
  simp [FrameKind.frame]

theorem FrameLength.storeWrite (sender : Address) (target : Byte) (data : List Byte) : FrameLength.Statement (.storeWrite sender target data) := by
  intro h f e
  have h : decide (data.length ≤ 7) = true := h
  cases e
  simp at h
  simp [FrameKind.frame]
  omega

theorem FrameLength.storeRead (sender : Address) (target count : Byte) : FrameLength.Statement (.storeRead sender target count) := by
  intro _ f e
  cases e
  simp [FrameKind.frame]

theorem FrameLength.changedScan (sender : Address) (target high low : Byte) : FrameLength.Statement (.changedScan sender target high low) := by
  intro _ f e
  cases e
  simp [FrameKind.frame]

theorem FrameLength.configWrite (sender : Address) (target offset : Byte) (data : List Byte) : FrameLength.Statement (.configWrite sender target offset data) := by
  intro h f e
  have h : (decide (1 ≤ data.length) && decide (data.length ≤ 6)) = true := h
  cases e
  simp at h
  simp [FrameKind.frame]
  omega

theorem FrameLength.faultClear (sender : Address) (target high low : Byte) : FrameLength.Statement (.faultClear sender target high low) := by
  intro _ f e
  cases e
  simp [FrameKind.frame]

theorem FrameLength.restart (sender : Address) (target : Byte) : FrameLength.Statement (.restart sender target) := by
  intro _ f e
  cases e
  simp [FrameKind.frame]

theorem FrameLength.faultNote (sender : Address) (high low count : Byte) : FrameLength.Statement (.faultNote sender high low count) := by
  intro _ f e
  cases e
  simp [FrameKind.frame]

theorem FrameLength.storeDataTaken (sender : Address) (part : Byte) (data : List Byte) : FrameLength.Statement (.storeDataTaken sender part data) := by
  intro h f e
  have h : (decide (data.length = 4) || decide (data.length = 6)) = true := h
  cases e
  simp at h
  simp [FrameKind.frame]
  omega

theorem FrameLength.scanReplyTaken (sender : Address) (found high low : Byte) : FrameLength.Statement (.scanReplyTaken sender found high low) := by
  intro _ f e
  cases e
  simp [FrameKind.frame]

theorem FrameLength.storeData : FrameLength.Statement (.storeData) := by
  intro _ f e
  cases e

theorem FrameLength.scanReply : FrameLength.Statement (.scanReply) := by
  intro _ f e
  cases e

theorem FrameLength.faultNoteRetry : FrameLength.Statement (.faultNoteRetry) := by
  intro _ f e
  cases e

theorem FrameLength.writeVerify (readBack : Option ArrayBytes) : FrameLength.Statement (.writeVerify readBack) := by
  intro _ f e
  cases e

theorem FrameLength.forcingWriteEnd (held : Option ArrayBytes) : FrameLength.Statement (.forcingWriteEnd held) := by
  intro _ f e
  cases e

theorem FrameLength.pulseExpiry (n : StopNo) : FrameLength.Statement (.pulseExpiry n) := by
  intro _ f e
  cases e

theorem FrameLength.settleCheck (n : StopNo) : FrameLength.Statement (.settleCheck n) := by
  intro _ f e
  cases e

theorem FrameLength.restExpiry (n : StopNo) : FrameLength.Statement (.restExpiry n) := by
  intro _ f e
  cases e

theorem FrameLength.shoeSample (reading : Nat) : FrameLength.Statement (.shoeSample reading) := by
  intro _ f e
  cases e

theorem FrameLength.followerExpiry (reading : Nat) : FrameLength.Statement (.followerExpiry reading) := by
  intro _ f e
  cases e

theorem FrameLength.refreshExpiry : FrameLength.Statement (.refreshExpiry) := by
  intro _ f e
  cases e

theorem FrameLength.silencePeriod : FrameLength.Statement (.silencePeriod) := by
  intro _ f e
  cases e

theorem FrameLength.silenceExpiry : FrameLength.Statement (.silenceExpiry) := by
  intro _ f e
  cases e

theorem FrameLength.shiftEnd : FrameLength.Statement (.shiftEnd) := by
  intro _ f e
  cases e

theorem FrameLength.blinkPhase (lamp : BlinkLamp) : FrameLength.Statement (.blinkPhase lamp) := by
  intro _ f e
  cases e

theorem FrameLength.blinkEnd (i : Fin 16) : FrameLength.Statement (.blinkEnd i) := by
  intro _ f e
  cases e

theorem FrameLength.faultPulseEnd : FrameLength.Statement (.faultPulseEnd) := by
  intro _ f e
  cases e

theorem FrameLength.supplyLost : FrameLength.Statement (.supplyLost) := by
  intro _ f e
  cases e

theorem FrameLength.startBitRead : FrameLength.Statement (.startBitRead) := by
  intro _ f e
  cases e

theorem FrameLength.pressIgnored (contact : Contact) : FrameLength.Statement (.pressIgnored contact) := by
  intro _ f e
  cases e

end Sys2Proof.Laws
end

