-- ==== Sys2Proof/Laws/Tables.lean ====
section
/-! SUPPORT. Reading a table after it is built or changed. -/

namespace Sys2Proof

@[simp] theorem getElem_table {α : Type} {k : Nat} (f : Fin k → α) (i : Nat) (h : i < k) :
    (table f)[i] = f ⟨i, h⟩ := by
  simp [table]

@[simp] theorem getElem_table_fin {α : Type} {k : Nat} (f : Fin k → α) (i : Fin k) : (table f)[i] = f i :=
  getElem_table f i.val i.isLt

theorem getElem_put {α : Type} {k : Nat} (v : Vector α k) (i : Fin k) (x : α) (j : Nat) (h : j < k) :
    (put v i x)[j] = if i.val = j then x else v[j] := by
  simp [put, Vector.getElem_set]

theorem getElem_put_fin {α : Type} {k : Nat} (v : Vector α k) (i : Fin k) (x : α) (j : Fin k) :
    (put v i x)[j] = if i = j then x else v[j] := by
  have h := getElem_put v i x j.val j.isLt
  by_cases e : i = j
  · subst e; simpa using h
  · rw [if_neg e]
    rw [if_neg fun e' => e (Fin.ext e')] at h
    exact h

@[simp] theorem getElem_put_same {α : Type} {k : Nat} (v : Vector α k) (i : Fin k) (x : α) : (put v i x)[i] = x := by
  rw [getElem_put_fin, if_pos rfl]

theorem getElem_put_other {α : Type} {k : Nat} (v : Vector α k) {i j : Fin k} (x : α) (h : i ≠ j) :
    (put v i x)[j] = v[j] := by
  rw [getElem_put_fin, if_neg h]

@[simp] theorem getElem_empty (n : StopNo) : StopSet.empty[n] = false := by
  simp [StopSet.empty]

/-- Two tables are equal when they agree at every place. -/
theorem table_ext {α : Type} {k : Nat} {v w : Vector α k} (h : ∀ i : Fin k, v[i] = w[i]) : v = w := by
  apply Vector.ext
  intro i hi
  exact h ⟨i, hi⟩

end Sys2Proof
end

