-- ==== Sys2Proof/Tests/Slice0.lean ====
section
/-! SUPPORT. Tests: the well-formedness checks, worked values of the manual, single commands on small states, and for
every statement with hypotheses a state and operands that meet them, clause by clause. -/

namespace Sys2Proof.Tests

set_option Elab.async false

open Sys2Proof Sys2Proof.Machine

/-! ### Small states -/

/-- The state a command leaves. -/
def after (c : Instr) (s : State) : State :=
  match exec c s with
  | .next t => t
  | _ => s

/-- A RUNNING node of address 1 and division 0 that reads a frame to its end: input 0 is general piston 3, input 1
divisional piston 2 of its own division, input 2 divisional piston 2 of division 1. -/
def playing : State :=
  { State.reset with
    node := .running
    config := { NodeConfig.factory with
      pistons := put (put (put NodeConfig.factory.pistons 0 (some (.general 3))) 1 (some (.divisional 0#4 2))) 2
        (some (.divisional 1#4 2)) }
    sequencer := { Sequencer.initial with startWait := none }
    link := { Link.initial with line := .gap }
    outputs := { Outputs.initial with dirty := false } }

/-- The same node in HAND_ONLY. -/
def byHand : State := { playing with node := .handOnly }

/-- A waiting entry of the transmit queue. -/
def waits (b : Body) (age : Nat) : QueueEntry := ⟨b, age, false, false⟩

/-- The node with frames waiting. -/
def queued (q : List QueueEntry) (s : State) : State := { s with link := { s.link with queue := q, admitted := 20 } }

/-- Eight frames that wait, the last a FAULT-NOTE. -/
def eight : List QueueEntry :=
  [waits (.level true) 0, waits (.level true) 1, waits (.level true) 2, waits (.level true) 3, waits (.level true) 4,
    waits (.level true) 5, waits (.level true) 6, waits .faultNote 7]

/-- Eight frames that wait, none a FAULT-NOTE. -/
def eightLevels : List QueueEntry :=
  [waits (.level true) 0, waits (.level true) 1, waits (.level true) 2, waits (.level true) 3, waits (.level true) 4,
    waits (.level true) 5, waits (.level true) 6, waits (.level true) 7]

/-- The node with one input's contact moved and its debounce timer running. -/
def due (c : Contact) (closed : Bool) (s : State) : State :=
  { s with scanner := s.scanner.withInput c ⟨closed, !closed, some 4⟩ }

/-- The node with SET held at auxiliary input 7. -/
def setHeld (s : State) : State :=
  { s with
    config := { s.config with aux := put s.config.aux 7 .set }
    scanner := { s.scanner with aux := put s.scanner.aux 7 ⟨true, true, none⟩ } }

/-- The node with one auxiliary input's function. -/
def withAux (f : AuxFunction) (s : State) : State := { s with config := { s.config with aux := put s.config.aux 0 f } }

/-- The node with one stop in a motion state, its entry in the move list. -/
def moving (n : StopNo) (m : Motion) (s : State) : State :=
  { s with sequencer := { s.sequencer with
      motions := put s.sequencer.motions n ⟨m, false⟩, moves := s.sequencer.moves ++ [n] } }

/-- The node with references of piston 3 and of its own divisional piston 2, that draw stop 5. -/
def referenced (s : State) : State :=
  { s with resolver := { s.resolver with
      general := some ⟨⟨2#6, 7#8⟩, 3, put (Vector.replicate 64 .leave) 5 .draw, false, false⟩
      divisional := some ⟨⟨2#6, 8#8⟩, 2, put (Vector.replicate 64 .leave) 5 .draw, false, false⟩
      lampRefs := put s.resolver.lampRefs 1 (some ⟨⟨3#6, 9#8⟩, 2, false⟩) } }

/-- The node with lamps as its references give them. -/
def lamped (s : State) : State := refreshLamps (referenced s)

/-- The node in service mode. -/
def serviced (s : State) : State := { s with service := { s.service with mode := true } }

/-- A record written with a bad check byte. -/
def badRecord : Record := ⟨Vector.replicate 16 1#8, 0#8, true, true⟩

/-- The node with a damaged record at an index. -/
def withBad (i : Nat) (s : State) : State := { s with store := { s.store with array := [(i, badRecord)] } }

/-- A write of entry bytes that draw stop 0. -/
def oneWrite (i : Nat) : WriteEntry := ⟨i, put allLeave 0 1#8, .capture⟩

/-- The node with writes in its list; the record of a write in progress is marked written. -/
def writing (stage : Option WriteStage) (ws : List WriteEntry) (s : State) : State :=
  { s with store := { s.store with
      writes := ws
      stage := stage
      array := match stage, ws with
        | some _, e :: _ => s.store.array.write e.index { s.store.array.read e.index with written := true }
        | _, _ => s.store.array } }

/-- The shoe of the manual's worked case (05_the_crescendo_shoe.md). -/
def workedShoe : ShoeConfig := ⟨112, 905, 8, 12, 2, 20, 10, 2⟩

/-- A shoe host with the worked shoe, ACTIVE at rest on the reading 300. -/
def host : State :=
  { playing with
    straps := { initialStraps with shoeHost := true }
    config := { playing.config with shoe := some workedShoe }
    shoe := ⟨.active, some 4800, some 300, some 238, 4, 4, 0, true, none, some 100⟩ }

/-! ### Well-formed commands: each check refuses an ill-formed term -/

theorem test_reading_of_a_start_is_checked :
    (Instr.enterRunning 1024).wellFormed = false ∧ (Instr.enterRunning 1023).wellFormed = true := by decide
theorem test_reading_of_a_sample_is_checked :
    (Instr.shoeSample 1024).wellFormed = false ∧ (Instr.shoeSample 0).wellFormed = true := by decide
theorem test_reading_of_a_follower_sample_is_checked :
    (Instr.followerExpiry 1024).wellFormed = false ∧ (Instr.followerExpiry 1023).wellFormed = true := by decide
theorem test_release_of_a_stop_is_refused :
    (Instr.pistonRelease (.stop 0)).wellFormed = false ∧ (Instr.pistonRelease (.piston 0)).wellFormed = true := by decide
theorem test_press_of_a_stop_is_refused :
    (Instr.pressIgnored (.stop 0)).wellFormed = false ∧ (Instr.pressIgnored (.aux 0)).wellFormed = true := by decide
theorem test_long_frame_is_refused :
    (Instr.unknownKind ⟨0#3, 1#6, 0#5, List.replicate 9 0#8⟩).wellFormed = false ∧
      (Instr.unknownKind ⟨0#3, 1#6, 0#5, List.replicate 8 0#8⟩).wellFormed = true := by decide
theorem test_tutti_on_needs_a_state :
    (Instr.tuttiOn 1#6 0#8 0#8).wellFormed = false ∧ (Instr.tuttiOn 1#6 1#8 0#8).wellFormed = true := by decide
theorem test_service_mode_on_needs_an_on_byte :
    (Instr.serviceModeOn 1#6 1#8 0#8 0#8).wellFormed = false ∧
      (Instr.serviceModeOn 1#6 1#8 1#8 0#8).wellFormed = true := by decide
theorem test_write_pointer_needs_a_which_byte :
    (Instr.storePointWrite 1#6 1#8 0#8 0#8 0#8).wellFormed = false ∧
      (Instr.storePointWrite 1#6 1#8 1#8 0#8 0#8).wellFormed = true := by decide
theorem test_store_write_length_is_checked :
    (Instr.storeWrite 1#6 1#8 (List.replicate 8 0#8)).wellFormed = false ∧
      (Instr.storeWrite 1#6 1#8 []).wellFormed = true := by decide
theorem test_config_write_length_is_checked :
    (Instr.configWrite 1#6 1#8 0#8 []).wellFormed = false ∧
      (Instr.configWrite 1#6 1#8 0#8 (List.replicate 7 0#8)).wellFormed = false ∧
      (Instr.configWrite 1#6 1#8 0#8 [0#8]).wellFormed = true := by decide
theorem test_store_data_length_is_checked :
    (Instr.storeDataTaken 1#6 0#8 (List.replicate 5 0#8)).wellFormed = false ∧
      (Instr.storeDataTaken 1#6 0#8 (List.replicate 6 0#8)).wellFormed = true := by decide

/-! ### Worked values of the manual -/

/-- R32's examples: level 3, G5; level 3, D2; program 2, stage 17; tutti level 127. -/
theorem test_record_indices :
    generalIndex 3 5 = 148 ∧ divisionalIndex 3 2 = 6181 ∧ stageIndex 2 17 = 7761 ∧ tuttiIndex 127 = 7935 := by decide

/-- R34's example: entry bytes that add up to 1,234 have the check byte 46. -/
theorem test_check_byte :
    balance (put (put (put (put (put allLeave 0 255#8) 1 255#8) 2 255#8) 3 255#8) 4 214#8) = 46#8 := by decide

/-- R207: the lowest stop of an entry byte stands in its lowest two bits. -/
theorem test_entry_order : entryCode (put allLeave 1 0x06#8) 4 = 2#2 ∧ entryCode (put allLeave 1 0x06#8) 5 = 1#2 := by
  decide

/-- R220: the factory block passes its check, and a node of address 1 finds no configuration fault. -/
theorem test_factory_block : blockBalances factoryBlock = true ∧ configFault initialStraps factoryBlock = false := by
  decide +kernel

/-- R221: address 0, and a stop count of 0, are configuration faults. -/
theorem test_configuration_faults :
    configFault ⟨0#6, 0#4, false⟩ factoryBlock = true ∧
      configFault initialStraps (put (put factoryBlock 0 0#8) 127 75#8) = true := by
  decide +kernel

/-- R227: a power-on of a factory node leaves the state right after reset. -/
theorem test_power_on : after (.powerOn initialStraps) { State.reset with node := .unpowered } = State.reset := by
  decide +kernel

/-- R219: a strap moved while the node runs changes nothing until a RESTART reads it. -/
theorem test_restart_reads_moved_straps :
    let z : Straps := ⟨5#6, 3#4, false⟩
    let s := { playing with pins := { playing.pins with strapsToCome := [z] } }
    s.straps = initialStraps ∧ (after (.restart 60#6 1#8) s).straps = z ∧
      (after (.restart 60#6 1#8) s).pins = ⟨z, false, true, []⟩ := by
  decide +kernel

/-- R175: a frame begins with a dominant bit. -/
theorem test_recessive_first_bit : assemble (List.replicate 9 true) = .unfinished := by decide

/-- R98's examples: Q = 32, from (3, G31) and (3, G32), and from G40; and R99's from (4, G1) and (3, G32). -/
theorem test_steps :
    stepForward 32 (3, 31) = (3, 32) ∧ stepForward 32 (3, 32) = (4, 1) ∧ stepForward 32 (3, 40) = (4, 1) ∧
      stepForward 32 (127, 32) = (127, 32) ∧ stepBack 32 (4, 1) = (3, 32) ∧ stepBack 32 (3, 32) = (3, 31) ∧
      stepBack 32 (3, 40) = (3, 32) ∧ stepBack 32 (0, 1) = (0, 1) := by
  decide

/-- R111's and R112's examples. -/
theorem test_filter :
    filterStep 2 4800 500 = 5600 ∧ filterStep 2 6987 ((6987 + 1013) / 16) = 7240 ∧ filterStep 2 8003 500 = 8002 ∧
      filtered 5600 = 350 ∧ filtered 6987 = 437 := by
  decide

/-- The worked case's positions and R117's examples of the target stage. -/
theorem test_worked_shoe :
    workedShoe.calibrated = true ∧ workedShoe.normalized 300 = 238 ∧ workedShoe.normalized 350 = 304 ∧
      workedShoe.normalized 485 = 483 ∧ workedShoe.normalized 489 = 488 ∧ workedShoe.reachedStage 483 = 9 ∧
      workedShoe.newTargetStage 12 502 = 10 ∧ workedShoe.newTargetStage 10 480 = 10 ∧
      workedShoe.newTargetStage 10 476 = 9 := by
  decide

/-- R108's examples: |T - H| = 50 fails the first test, and 100, 180 with dead bands of 30 the second. -/
theorem test_calibrations :
    ShoeConfig.calibrated ⟨100, 150, 0, 0, 0, 1, 0, 0⟩ = false ∧
      ShoeConfig.calibrated ⟨100, 180, 30, 30, 0, 1, 0, 0⟩ = false := by
  decide

/-- R107's examples: the limit of the hysteresis is 47 for 20 stages and 31 for 31. -/
theorem test_hysteresis_limits :
    (readShoe (put (put factoryBlock 13 20#8) 14 255#8)).hysteresis = 47 ∧
      (readShoe (put (put factoryBlock 13 255#8) 14 255#8)).hysteresis = 31 := by
  decide +kernel

/-- Samples 1 to 3 of the worked case: F, target, displayed stage and follower count. -/
theorem test_worked_samples :
    let a := (after (.shoeSample 500) host).shoe
    let b := (after (.shoeSample 500) { host with shoe := a }).shoe
    let c := (after (.shoeSample 500) { host with shoe := b }).shoe
    (a.filter, a.target, a.displayed, a.follower) = (some 5600, 6, 4, some 2) ∧
      (b.filter, b.target, b.displayed, b.follower) = (some 6200, 7, 4, some 1) ∧
      (c.filter, c.target, c.displayed, c.follower) = (some 6650, 8, 5, some 2) := by
  decide +kernel

/-- R164: a SHOE has 59 bits and a RECALL 91 before stuffing, the end field among them. -/
theorem test_frame_lengths :
    (bareFrame (FrameKind.shoe.frame 1#6 [0#8, 0#8])).length + endField.length = 59 ∧
      (bareFrame (FrameKind.recall.frame 1#6 [0#8, 0#8, 1#8, 0#8, 0#8, 0#8])).length + endField.length = 91 := by
  decide +kernel

/-- The arbitration fields of the example of 08_the_console_link.md: node 12's RECALL and node 20's DEVIATE class. -/
theorem test_arbitration_fields :
    arbitrationField (FrameKind.recall.frame 12#6 []) = 0b001001100#9 ∧
      arbitrationField (FrameKind.deviate.frame 12#6 []) = 0b101001100#9 ∧
      arbitrationField (FrameKind.storeRead.frame 60#6 []) = 0b110111100#9 := by
  decide

/-- A frame is read as it was sent, and a flipped bit of its check is found (R165, R166, R175, R176). -/
theorem test_frame_assembly :
    assemble (frameBits ⟨4#3, 12#6, 6#5, [3#8]⟩) = .taken ⟨4#3, 12#6, 6#5, [3#8]⟩ ∧
      assemble (List.replicate 9 false) = .formatError := by
  decide +kernel

/-- R169: the kinds and classes of a few frames, as commands. -/
theorem test_commands_of_frames :
    commandOf ⟨1#3, 12#6, 2#5, [0#8, 1#8, 5#8, 3#8, 40#8, 0#8]⟩ = .generalRecall 12#6 1#8 5#8 3#8 40#8 0#8 ∧
      commandOf ⟨0#3, 12#6, 1#5, [1#8, 2#8]⟩ = .divisionalCancel 12#6 2#8 ∧
      commandOf ⟨7#3, 20#6, 0x1E#5, [12#8, 0#8, 0#8]⟩ = .faultNote 20#6 12#8 0#8 0#8 ∧
      commandOf ⟨2#3, 12#6, 2#5, [0#8, 1#8, 5#8, 3#8, 40#8, 0#8]⟩ =
        .unknownKind ⟨2#3, 12#6, 2#5, [0#8, 1#8, 5#8, 3#8, 40#8, 0#8]⟩ := by
  decide

/-- The FAULT-NOTE bytes of the example of 09_outputs_and_fault_reporting.md: start cause LINK is 12, and STUCK with
LINK_CRC is 9. -/
theorem test_note_bytes :
    noteHigh ⟨0#10, 0, .link, false, false, none⟩ = 12#8 ∧ noteLow ⟨9#10, 2, .none, false, false, none⟩ = 9#8 := by
  decide

/-! ### Single commands -/

/-- A press RECALL of piston 3 at level 0 waits in the queue with serial 0 (R153). -/
theorem test_recall_press :
    (after (.recallPress 0) (due (.piston 0) true playing)).link.queue =
        [waits (.recall .general 0#8 3#8 0#8 0#8) 0] ∧
      (after (.recallPress 0) (due (.piston 0) true playing)).resolver.serial = 1#8 := by
  decide +kernel

/-- A general RECALL of G1 at level 0 retires what its record retires, and hands the stop over (R12, R59). -/
theorem test_general_recall :
    let s := writing none [⟨0, put allLeave 0 0x09#8, .service⟩] playing
    let t := after (.generalRecall 2#6 0#8 1#8 0#8 7#8 0#8) s
    t.resolver.drawn[0] = true ∧ t.resolver.drawn[1] = false ∧ t.sequencer.moves = [0] ∧
      t.resolver.lastGeneral = some (0, 1) := by
  decide +kernel

/-- A capture at the factory state stores every stop as RETIRE, and its changed flag answers set (R17, R36). -/
theorem test_general_capture :
    let t := after (.generalCapture 2#6 0#8 48#8 127#8 7#8) playing
    t.store.answer 6143 = Vector.replicate 16 0xAA#8 ∧ t.store.changedFlag 6143 = true := by
  decide +kernel

/-- A supply fall in the middle of a pulse sends the drawn image back to the knob (R26, R79). -/
theorem test_supply_fall :
    let s := moving 3 (.pulsing true .first 40) { playing with resolver := { playing.resolver with
      drawn := put playing.resolver.drawn 3 true } }
    (after .supplyFall s).resolver.drawn[3] = false ∧ (after .supplyFall s).sequencer.energized = 0 := by
  decide +kernel

/-- A second failed settle check marks the stop STUCK (R66). -/
theorem test_settle_check :
    let t := after (.settleCheck 3) (moving 3 (.settling true .second 0) playing)
    t.sequencer.stuckCount = 1 ∧ t.faults.has .stuck = true := by
  decide +kernel

/-- A CANCEL into the full queue of eight evicts the FAULT-NOTE, which is owed again (R185, R201). -/
theorem test_cancel_press :
    let t := after (.generalCancelPress 0) (due (.aux 0) true (withAux .generalCancel (queued eight playing)))
    t.link.queue.length = 8 ∧ holdsNote t.link.queue = false ∧ t.faults.notePending = true ∧
      t.faults.has .txOverflow = true := by
  decide +kernel

/-- FAULT-CLEAR of every flag sets STUCK again while a knob is stuck (R196). -/
theorem test_fault_clear :
    let s := { playing with faults := ⟨9#10, 2, .none, false, false, none⟩ }
    (after (.faultClear 60#6 1#8 3#8 255#8) s).faults.flags = 1#10 := by
  decide +kernel

/-- A STORE-WRITE of part 2 completes record 7935, and the write pointer goes on to 0 (R208, R210). -/
theorem test_store_write :
    let s := serviced { playing with service := { playing.service with
      writePointer := ⟨7935, 2⟩, received := List.replicate 12 1#8 } }
    let t := after (.storeWrite 60#6 1#8 (List.replicate 4 1#8)) (serviced s)
    t.service.writePointer = ⟨0, 0⟩ ∧ t.store.answer 7935 = Vector.replicate 16 1#8 := by
  decide +kernel

/-- A CHANGED-SCAN answers with the first changed record (R214). -/
theorem test_scan_reply :
    let s := { (withBad 148 playing) with service := { playing.service with scan := some 5 } }
    (after .scanReply s).link.queue = [waits (.scanReply 1#8 0#8 148#8) 0] := by
  decide +kernel

/-- R212: a part is offered to each free place, in part order: of three free places, two take parts 1 and 2 of record
7935 and one part 0 of record 0; where one record is left, two parts and no more. -/
theorem test_parts_fill_the_free_places :
    let s := fun k => queued (eightLevels.drop 3) { playing with service := { playing.service with
      readPointer := ⟨7935, 1⟩, readCopy := some allLeave, outstanding := k } }
    let t := after .storeData (s 2)
    let u := after .storeData (s 1)
    t.link.queue.drop 5 = [waits (.storeData 1#8 (List.replicate 6 0#8)) 20,
        waits (.storeData 2#8 (List.replicate 4 0#8)) 21, waits (.storeData 0#8 (List.replicate 6 0#8)) 22] ∧
      (t.service.readPointer, t.service.outstanding) = (⟨0, 1⟩, 1) ∧
      u.link.queue.length = 7 ∧ (u.service.readPointer, u.service.outstanding, u.service.readCopy) = (⟨0, 0⟩, 0, none) := by
  decide +kernel

/-! ### Witnesses of the statements' hypotheses -/

theorem witness_StepRunsTheFrontCommand :
    State.pending { playing with pending := [.linkIdle, .shiftEnd] } = .linkIdle :: [.shiftEnd] := rfl

theorem witness_ClockRunsOnAnEmptyQueue :
    playing.pending = [] ∧ playing.dueCommand = none ∧
      State.dueCommand { playing with sequencer := { playing.sequencer with startWait := some 0 } } =
        some .startWaitEnd := by
  decide +kernel

theorem witness_CommandOfItsOwnFrame :
    (Instr.level 1#6 127#8).wellFormed = true ∧
      frameOf (.level 1#6 127#8) = some ⟨4#3, 1#6, 6#5, [127#8]⟩ ∧
      (match Instr.level 1#6 127#8 with
        | .unknownKind _ => false
        | _ => true) = true := by
  decide

theorem witness_SentFrameIsAssembled :
    (RawFrame.mk 0#3 0#6 0#5 (List.replicate 8 0#8)).payload.length ≤ 8 := by decide

/-- R123, R183: a SHOE is offered with the node's own division, 9 here, and an update in place keeps it. -/
theorem test_shoe_carries_the_own_division :
    let s := { host with straps := { host.straps with division := 9#4 } }
    (offerShoe s).link.queue.map QueueEntry.body = [.shoe 9#4 0#8 4#8] ∧
      (offerShoe (offerShoe { s with shoe := { s.shoe with program := 2 } })).link.queue.map QueueEntry.body =
        [.shoe 9#4 2#8 4#8] ∧
      updateShoe 3#8 7#8 [waits (.shoe 9#4 0#8 4#8) 0] = [waits (.shoe 9#4 3#8 7#8) 0] := by decide +kernel

/-- A node in the middle of a recall: a pulse, a waiting move, frames and writes in their lists, lamps lit. -/
def busy : State :=
  let s := queued [⟨.cancel .general 0#8, 3, true, false⟩, waits (.shoe 0#4 0#8 0#8) 1, waits .faultNote 2]
    (writing (some .storing) [oneWrite 5, oneWrite 5, oneWrite 7935]
      (moving 9 (.queued true .second) (moving 3 (.pulsing true .first 60) playing)))
  refreshLamps (referenced { s with
    resolver := { s.resolver with
      drawn := put (put s.resolver.drawn 3 true) 9 true
      speaking := put (put s.resolver.speaking 3 true) 9 true
      lastGeneral := some (127, 48) }
    pending := [.pulseExpiry 3] })

theorem witness_EveryStepKeepsTheStoreLaws : busy.memoryLaw ∧ busy.writeListLaw ∧ busy.serviceLaw := by decide +kernel
theorem witness_EveryStepKeepsTheQueueLaw : busy.queueLaw ∧ busy.shoeDivisionLaw := by decide +kernel
theorem witness_EveryStepKeepsTheCoilLaw : busy.coilLaw := by decide +kernel
theorem witness_EveryStepKeepsTheDrawnImage : busy.coilLaw ∧ busy.drawnLaw :=
  ⟨by decide +kernel, show ∀ n : StopNo, busy.resolver.drawn[n] = busy.imageOf n by decide +kernel⟩
theorem witness_EveryStepKeepsTheSpeakingSet : busy.speakingLaw := by decide +kernel
theorem witness_EveryStepKeepsTheLamps : busy.lampLaw :=
  show ∀ i : Fin 16, (busy.outputs.lamps[i]).steady = busy.steadyValue busy.config.pistons[i] by decide +kernel
theorem witness_EveryStepKeepsTheFollowingFlags : busy.queueLaw ∧ busy.faultLaw :=
  ⟨by decide +kernel, show busy.faults.stuckCount = busy.sequencer.stuckCount ∧
      busy.faults.has .stuck = decide (0 < busy.faults.stuckCount) ∧
      busy.faults.has .shoeSilent = (busy.resolver.silence == .silent) ∧
      busy.faults.has .config = (busy.shoe.unit == .off) by decide +kernel⟩
theorem witness_EveryStepKeepsTheRanges : busy.levelLaw ∧ busy.serviceLaw ∧ busy.scannerLaw ∧ busy.shoeLaw := by
  decide +kernel
/-- The step all the laws above speak of. -/
theorem witness_EveryStep : ∃ t, step busy = .next t :=
  ⟨startRule { busy with pending := [], sequencer := busy.sequencer.pulseEnd 3 true .first 30 }, rfl⟩

/-- A node without its supply. -/
def unpowered : State := { State.reset with node := .unpowered }

/-- The reset line active. -/
def lineActive (s : State) : State := { s with pins := { s.pins with resetActive := true } }

/-- The node whose straps the coming readings find so. -/
def strapsMove (zs : List Straps) (s : State) : State := { s with pins := { s.pins with strapsToCome := zs } }

/-- Its clauses on the block: a block with a fault and one without, on a shoe host and on another node. -/
theorem witness_PowerOnTakesTheValuesAfterStart_block :
    configFault initialStraps factoryBlock = false ∧ configFault ⟨0#6, 0#4, true⟩ factoryBlock = true ∧
      initialStraps.shoeHost = false ∧ (Straps.mk 0#6 0#4 true).shoeHost = true := by
  decide +kernel

theorem witness_PowerOnTakesTheValuesAfterStart :
    unpowered.node = .unpowered ∧ unpowered.store.stage = none ∧ unpowered.pins.resetActive = false ∧
      (lineActive unpowered).node = .unpowered ∧ (lineActive unpowered).store.stage = none ∧
      (lineActive unpowered).pins.resetActive = true ∧
      unpowered.pins.strapsToCome = [] ∧ (strapsMove [⟨5#6, 3#4, true⟩] unpowered).pins.resetActive = false ∧
      (strapsMove [⟨5#6, 3#4, true⟩] unpowered).pins.strapsToCome = ⟨5#6, 3#4, true⟩ :: [] := by
  decide +kernel

/-- A start held at the reset line. -/
def held : State := lineActive { State.reset with node := .starting .lineHeld }

theorem witness_ResetLineHoldsAndReleaseGoesOn :
    (playing.powered = true ∧ playing.pins.resetActive = false) ∧
      (unpowered.powered = false ∧ unpowered.pins.resetActive = false) ∧
      (held.node = .starting .lineHeld ∧ held.pins.resetActive = true ∧ held.store.stage = none ∧
        held.pins.strapsToCome = [] ∧ (strapsMove [⟨5#6, 3#4, true⟩] held).node = .starting .lineHeld ∧
        (strapsMove [⟨5#6, 3#4, true⟩] held).pins.resetActive = true ∧
        (strapsMove [⟨5#6, 3#4, true⟩] held).store.stage = none ∧
        (strapsMove [⟨5#6, 3#4, true⟩] held).pins.strapsToCome = ⟨5#6, 3#4, true⟩ :: []) ∧
      ((writing (some .storing) [oneWrite 5, oneWrite 6] held).node = .starting .lineHeld ∧
        (writing (some .storing) [oneWrite 5, oneWrite 6] held).pins.resetActive = true ∧
        (writing (some .storing) [oneWrite 5, oneWrite 6] held).store.stage ≠ none) := by
  decide +kernel

theorem witness_RestartBeginsAStart :
    (playing.readsFrame ∧ playing.isTarget 1#8 = true ∧ playing.pins.resetActive = false ∧
        playing.store.stage = none ∧ playing.pins.strapsToCome = []) ∧
      (let s := strapsMove [⟨5#6, 3#4, true⟩] playing;
        s.readsFrame ∧ s.isTarget 1#8 = true ∧ s.pins.resetActive = false ∧ s.store.stage = none ∧
          s.pins.strapsToCome = ⟨5#6, 3#4, true⟩ :: []) ∧
      ((writing (some .forcing) [oneWrite 5] byHand).readsFrame ∧
        (writing (some .forcing) [oneWrite 5] byHand).isTarget 1#8 = true ∧
        (writing (some .forcing) [oneWrite 5] byHand).pins.resetActive = false ∧
        (writing (some .forcing) [oneWrite 5] byHand).store.stage ≠ none) ∧
      ((lineActive playing).readsFrame ∧ (lineActive playing).isTarget 1#8 = true ∧
        (lineActive playing).pins.resetActive = true) ∧
      (playing.readsFrame ∧ playing.isTarget 2#8 = false) := by
  decide +kernel

/-- A shoe host about to leave STARTING. -/
def hostStarting (c : ShoeConfig) : State :=
  { State.reset with
    straps := { initialStraps with shoeHost := true }
    config := { NodeConfig.factory with shoe := some c } }

theorem witness_EnterRunningLoadsTheKnobs :
    (State.reset.node = .starting (.ready false) ∧ State.reset.pins.supplyGood = true ∧ 1023 ≤ 1023 ∧
        State.reset.link = Link.initial ∧ State.reset.outputs.dirty = true ∧ State.reset.outputs.shift = none ∧
        State.reset.faults.flags = 0#10 ∧ State.reset.faults.notePending = false ∧ State.reset.isHost = false ∧
        State.reset.resolver = Resolver.initial) ∧
      ((hostStarting workedShoe).node = .starting (.ready false) ∧ (hostStarting workedShoe).isHost = true ∧
        (hostStarting workedShoe).config.shoe = some workedShoe ∧ workedShoe.calibrated = true) ∧
      ((hostStarting ⟨0, 63, 0, 0, 0, 1, 0, 0⟩).isHost = true ∧
        ShoeConfig.calibrated ⟨0, 63, 0, 0, 0, 1, 0, 0⟩ = false) := by
  decide +kernel

theorem witness_EnterHandOnlyPlaysByHand :
    let s := { State.reset with node := .starting (.ready true) }
    s.config.stops = 64 ∧ configFault ⟨0#6, 0#4, false⟩ factoryBlock = true ∧ s.resolver = Resolver.initial ∧ s.node = .starting (.ready true) ∧ s.pins.supplyGood = true ∧ s.link = Link.initial ∧ s.outputs.dirty = true ∧
      s.outputs.shift = none ∧ s.faults.notePending = false ∧ s.sequencer = Sequencer.initial := by
  decide +kernel

theorem witness_SupplyFallCutsTheCoils :
    (busy.pins.supplyGood = true ∧ busy.node = .running ∧ (busy.sequencer.motions[3]).motion ≠ .atRest ∧
        busy.resolver.drawn[3] ≠ (busy.scanner.stops[3]).value) ∧
      (playing.pins.supplyGood = true ∧ playing.node = .running ∧ (playing.sequencer.motions[3]).motion = .atRest) ∧
      (byHand.pins.supplyGood = true ∧ byHand.node ≠ .running ∧ byHand.powered = true) := by
  decide +kernel

theorem witness_WaitsEndWithTheStartRule :
    let low := { playing with pins := { playing.pins with supplyGood := false } }
    let cut := { playing with sequencer := { playing.sequencer with cutHold := some 0 } }
    (low.powered = true ∧ low.pins.supplyGood = false) ∧
      (cut.powered = true ∧ cut.sequencer.cutHold ≠ none ∧ cut.pins.supplyGood = true) ∧
      (State.reset.powered = true ∧ State.reset.sequencer.startWait ≠ none) := by
  decide +kernel

theorem witness_StartRuleFillsTheBudget :
    (busy.coilLaw ∧ busy.node = .running ∧ busy.pins.supplyGood = true ∧ busy.sequencer.cutHold = none ∧
        busy.sequencer.startWait = none) ∧
      byHand.node ≠ .running ∧ (after .supplyFall busy).pins.supplyGood = false ∧
      (after .supplyFall busy).sequencer.cutHold ≠ none ∧ State.reset.sequencer.startWait ≠ none := by
  decide +kernel

theorem witness_SupplyLostKeepsNonvolatileMemory :
    let s := { busy with blockWrite := some (127, 1) }
    s.powered = true ∧ s.store.array.wf = true ∧ s.store.stage ≠ none ∧
      s.store.writes = oneWrite 5 :: [oneWrite 5, oneWrite 7935] ∧ s.blockWrite = some (127, 1) ∧ 0 < 1 ∧
      127 + 1 ≤ 128 := by
  decide +kernel

theorem witness_ContactChangeLoadsTheDebounceTimer :
    (playing.powered = true ∧ false = (playing.scanner.input (.stop 63)).raw) ∧
      (playing.powered = true ∧ true ≠ (playing.scanner.input (.piston 15)).raw ∧
        true ≠ (playing.scanner.input (.piston 15)).value) ∧
      ((due (.aux 7) false playing).powered = true ∧
        true ≠ ((due (.aux 7) false playing).scanner.input (.aux 7)).raw ∧
        true = ((due (.aux 7) false playing).scanner.input (.aux 7)).value) ∧
      unpowered.powered = false := by
  decide +kernel

theorem witness_SenseChangeIsAHandMoveOrIgnored :
    let s := due (.stop 63) true playing
    let q := moving 63 (.queued true .first) s
    let p := moving 63 (.pulsing true .first 5) s
    let h := due (.stop 63) true byHand
    let o := { s with config := { s.config with stops := 63 } }
    let g := due (.stop 63) true State.reset
    ((s.scanner.stops[63]).timer ≠ none ∧ s.powered = true ∧ s.node = .running ∧ 63 < s.config.stops ∧
        (s.sequencer.motions[63]).motion = .atRest ∧ s.resolver.drawn[63] ≠ (s.scanner.stops[63]).raw) ∧
      ((q.scanner.stops[63]).timer ≠ none ∧ q.powered = true ∧ q.node = .running ∧ 63 < q.config.stops ∧
        (q.sequencer.motions[63]).motion = .queued true .first) ∧
      ((h.scanner.stops[63]).timer ≠ none ∧ h.powered = true ∧ h.node = .handOnly ∧ 63 < h.config.stops) ∧
      ((p.scanner.stops[63]).timer ≠ none ∧ p.powered = true ∧ p.node = .running ∧
        (p.sequencer.motions[63]).motion = .pulsing true .first 5) ∧
      ((o.scanner.stops[63]).timer ≠ none ∧ o.powered = true ∧ o.config.stops ≤ 63) ∧
      ((g.scanner.stops[63]).timer ≠ none ∧ g.powered = true ∧ g.node ≠ .running ∧ g.node ≠ .handOnly) := by
  decide +kernel

/-- The node whose references are contradicted: they draw stop 5, which is off. -/
def contradicted : State := referenced playing

theorem witness_DepartureCheckOffersADeviate :
    let r : Reference := ⟨⟨2#6, 7#8⟩, 3, put (Vector.replicate 64 .leave) 5 .draw, false, false⟩
    let d : Reference := ⟨⟨2#6, 8#8⟩, 2, put (Vector.replicate 64 .leave) 5 .draw, false, false⟩
    let drawn := { contradicted with resolver := { contradicted.resolver with
      drawn := put contradicted.resolver.drawn 5 true } }
    (contradicted.live = true ∧ contradicted.resolver.general = some r ∧ r.departed = false ∧
        contradicted.config.excluded[5] = false ∧ contradicted.contradicts r 5 ∧
        hasPlace contradicted.link.queue = true) ∧
      (hasPlace (queued eight contradicted).link.queue = false) ∧
      (contradicted.resolver.divisional = some d ∧ d.departed = false ∧ contradicted.contradicts d 5) ∧
      (¬ ∃ n : StopNo, drawn.config.excluded[n] = false ∧ drawn.contradicts r n) ∧
      (¬ ∃ n : StopNo, drawn.contradicts d n) ∧
      playing.resolver.general = none ∧ playing.resolver.divisional = none := by
  decide +kernel

theorem witness_OffersKeepTheQueueOrder :
    (busy.queueLaw ∧ busy.link.line ≠ .idle ∧ holdsShoe busy.link.queue = true) ∧
      (let s := { playing with link := { playing.link with line := .idle } };
        s.queueLaw ∧ s.link.line = .idle ∧ s.link.queue = [] ∧ s.live = true) ∧
      (holdsShoe playing.link.queue = false ∧ hasPlace playing.link.queue = true) ∧
      (holdsShoe (queued eight playing).link.queue = false ∧ hasPlace (queued eight playing).link.queue = false) := by
  decide +kernel

theorem witness_RecallPressOffersOrCoalesces :
    let s := due (.piston 0) true playing
    let m := queued [⟨.recall .general 0#8 9#8 0#8 0#8, 1, true, false⟩, waits (.recall .general 0#8 3#8 0#8 1#8) 2] s
    let u := queued [⟨.recall .general 0#8 9#8 0#8 0#8, 1, true, false⟩] s
    (s.node = .running ∧ s.config.pistons[0] = some (.general 3) ∧ (s.scanner.pistons[0]).timer ≠ none ∧
        (s.scanner.pistons[0]).raw = true ∧ s.setHeld = false ∧
        (∀ e ∈ s.link.queue, e.matchesPress .general (s.divisionFor (.general 3)) = false) ∧
        hasPlace s.link.queue = true) ∧
      ((∀ e ∈ (queued eight s).link.queue, e.matchesPress .general (s.divisionFor (.general 3)) = false) ∧
        hasPlace (queued eight s).link.queue = false) ∧
      (m.setHeld = false ∧ (∃ e ∈ m.link.queue, e.matchesPress .general (m.divisionFor (.general 3)) = true) ∧
        m.config.coalesceLast = true ∧
        m.link.queue = [⟨.recall .general 0#8 9#8 0#8 0#8, 1, true, false⟩] ++
          waits (.recall .general 0#8 3#8 0#8 1#8) 2 :: []) ∧
      (let f := { m with config := { m.config with coalesceLast := false } };
        f.node = .running ∧ f.config.pistons[0] = some (.general 3) ∧ (f.scanner.pistons[0]).timer ≠ none ∧
          (f.scanner.pistons[0]).raw = true ∧ f.setHeld = false ∧
          (∃ e ∈ f.link.queue, e.matchesPress .general (f.divisionFor (.general 3)) = true) ∧
          f.config.coalesceLast = false) ∧
      ((∃ e ∈ u.link.queue, e.matchesPress .general (u.divisionFor (.general 3)) = true) ∧
        u.config.coalesceLast = true ∧ ∀ e ∈ u.link.queue, e.underWay = true) := by
  decide +kernel

theorem witness_CapturePressIsCheckedAndQueued :
    let s := setHeld (due (.piston 0) true playing)
    let l := { s with store := { s.store with locks := put s.store.locks 0 true } }
    (s.node = .running ∧ s.config.pistons[0] = some (.general 3) ∧ (s.scanner.pistons[0]).timer ≠ none ∧
        (s.scanner.pistons[0]).raw = true ∧ s.setHeld = true ∧ s.store.locked s.resolver.level = false ∧
        hasPlace s.link.queue = true) ∧
      (l.setHeld = true ∧ l.store.locked l.resolver.level = true) ∧
      ((queued eight s).setHeld = true ∧ hasPlace (queued eight s).link.queue = false) := by
  decide +kernel

theorem witness_CancelPressesAlwaysReachTheQueue :
    let g := due (.aux 0) true (withAux .generalCancel playing)
    let d := due (.aux 0) true (withAux (.divisionalCancel 15#4) playing)
    (g.node = .running ∧ (g.scanner.aux[0]).timer ≠ none ∧ (g.scanner.aux[0]).raw = true ∧
        g.config.aux[0] = .generalCancel) ∧
      d.config.aux[0] = .divisionalCancel 15#4 ∧
      ((queued eight playing).queueLaw ∧ (queued eight playing).link.queue.length = 8 ∧
        (queued eight playing).live = true ∧ (queued eight playing).link.line ≠ .idle) := by
  decide +kernel

theorem witness_LateBoundPressesQueueTheirFrame :
    let s := fun f => due (.aux 0) true (withAux f playing)
    ((s .stepNext).node = .running ∧ ((s .stepNext).scanner.aux[0]).timer ≠ none ∧
        ((s .stepNext).scanner.aux[0]).raw = true ∧ (s .stepNext).config.aux[0] = .stepNext) ∧
      (s .stepPrev).config.aux[0] = .stepPrev ∧ (s .levelUp).config.aux[0] = .levelUp ∧
      (s .levelDown).config.aux[0] = .levelDown ∧ (s .tutti).config.aux[0] = .tutti := by
  decide +kernel

theorem witness_LatchAndProgramPresses :
    let s := due (.aux 0) true (withAux .set playing)
    let r := due (.piston 15) false playing
    let i := due (.piston 15) true playing
    let p := due (.aux 0) true (withAux (.program 3) host)
    (s.node = .running ∧ (s.scanner.aux[0]).timer ≠ none ∧ (s.scanner.aux[0]).raw = true ∧
        s.config.aux[0] = .set) ∧
      ((Contact.piston 15).hasLatch = true ∧ r.powered = true ∧ (r.scanner.input (.piston 15)).timer ≠ none ∧
        (r.scanner.input (.piston 15)).raw = false) ∧
      (i.powered = true ∧ (i.scanner.input (.piston 15)).timer ≠ none ∧ (i.scanner.input (.piston 15)).raw = true ∧
        i.pressHasNoEffect (.piston 15) = true) ∧
      (p.node = .running ∧ (p.scanner.aux[0]).timer ≠ none ∧ (p.scanner.aux[0]).raw = true ∧
        p.config.aux[0] = .program 3 ∧ p.shoe.unit = .active ∧ p.config.shoe ≠ none ∧ p.shoe.program ≠ 3) ∧
      host.shoe.program = 0 ∧ playing.shoe.unit ≠ .active := by
  decide +kernel

theorem witness_IdleLinkStartsAnAttempt :
    (playing.live = true ∧ playing.link.line ≠ .frame ∧ playing.link.queue = [] ∧ playing.link.line = .gap) ∧
      (let s := queued [waits (.step true 1#8) 0] playing;
        s.live = true ∧ s.link.line ≠ .frame ∧ s.link.queue = waits (.step true 1#8) 0 :: [] ∧
          s.resolver.lastGeneral = none) ∧
      (let s := queued [waits (.level true) 0] playing;
        s.live = true ∧ s.link.line ≠ .frame ∧ s.link.queue = waits (.level true) 0 :: [] ∧ s.resolver.level < 127) ∧
      (let s := queued [waits (.level true) 0] { playing with resolver := { playing.resolver with level := 127 } };
        s.live = true ∧ s.link.line ≠ .frame ∧ s.link.queue = waits (.level true) 0 :: [] ∧ s.resolver.level = 127) ∧
      (let s := queued [waits (.level false) 0] playing;
        s.live = true ∧ s.link.line ≠ .frame ∧ s.link.queue = waits (.level false) 0 :: []) ∧
      (let s := queued [waits .tutti 0] playing;
        s.live = true ∧ s.link.line ≠ .frame ∧ s.link.queue = waits .tutti 0 :: []) ∧
      (let s := queued [waits .faultNote 0] playing;
        s.live = true ∧ s.link.line ≠ .frame ∧ s.link.queue = waits .faultNote 0 :: []) := by
  decide +kernel

/-- Its clauses for the frames whose fields are fixed when they are queued. -/
theorem witness_IdleLinkStartsAnAttempt_fields :
    ∀ b ∈ [Body.cancel .general 1#8, .cancel .divisional 2#8, .recall .general 1#8 2#8 3#8 4#8,
        .recall .divisional 1#8 2#8 3#8 4#8, .capture .general 1#8 2#8 3#8 4#8, .capture .divisional 1#8 2#8 3#8 4#8,
        .deviate .general ⟨5#6, 6#8⟩, .deviate .divisional ⟨5#6, 6#8⟩, .shoe 0#4 1#8 2#8, .storeData 2#8 [1#8],
        .scanReply 1#8 2#8 3#8],
      let s := queued [waits b 0] playing
      s.live = true ∧ s.link.line ≠ .frame ∧ s.link.queue = waits b 0 :: [] := by
  decide +kernel

/-- A node with a step RECALL at the head of its queue and a last general position. -/
def stepping (forward : Bool) (l n : Nat) : State :=
  queued [waits (.step forward 1#8) 0] { playing with resolver := { playing.resolver with lastGeneral := some (l, n) } }

theorem witness_StepNextIsBoundFromTheLastPosition :
    ((stepping true 3 47).live = true ∧ (stepping true 3 47).link.line ≠ .frame ∧
        (stepping true 3 47).link.queue = waits (.step true 1#8) 0 :: [] ∧
        (stepping true 3 47).resolver.lastGeneral = some (3, 47) ∧ 47 < (stepping true 3 47).config.sequence) ∧
      ((stepping true 126 48).resolver.lastGeneral = some (126, 48) ∧
        (stepping true 126 48).config.sequence ≤ 48 ∧ 126 < 127) ∧
      ((stepping true 127 48).resolver.lastGeneral = some (127, 48) ∧ (stepping true 127 48).config.sequence ≤ 48) := by
  decide +kernel

theorem witness_StepPrevIsBoundFromTheLastPosition :
    let s := fun l n => stepping false l n
    ((s 3 2).live = true ∧ (s 3 2).link.line ≠ .frame ∧ (s 3 2).link.queue = waits (.step false 1#8) 0 :: [] ∧
        (s 3 2).resolver.lastGeneral = some (3, 2) ∧ 1 ≤ 2 ∧ 2 ≤ (s 3 2).config.sequence) ∧
      (NodeConfig.sequence { (s 3 48).config with sequence := 47 } < 48 ∧
        (s 3 48).resolver.lastGeneral = some (3, 48)) ∧
      ((s 1 1).resolver.lastGeneral = some (1, 1) ∧ 1 ≤ (s 1 1).config.sequence ∧ 0 < 1) ∧
      (s 0 1).resolver.lastGeneral = some (0, 1) := by
  decide +kernel

/-- A node that has a frame on the line. -/
def sends (e : QueueEntry) (f : RawFrame) (s : State) : State :=
  { s with link := ⟨.frame, some f, [{ e with underWay := true }], 20⟩ }

theorem witness_LineErrorsKeepOrDropTheFrame :
    let f := FrameKind.level.frame 1#6 [1#8]
    let s := sends (waits (.level true) 0) f playing
    (s.link.sending = some f ∧ s.link.queue = ⟨.level true, 0, true, false⟩ :: [] ∧ s.live = true ∧
        256#9 < arbitrationField f ∧ arbitrationField f ≤ arbitrationField f) ∧
      (playing.readsFrame ∧ assemble (List.replicate 9 false) = .formatError) ∧
      (let bits := frameBits ⟨4#3, 12#6, 6#5, [3#8]⟩;
        let wrong := bits.set (bits.length - 9) (!bits.getD (bits.length - 9) false);
        assemble wrong = .badCheck ⟨4#3, 12#6, 6#5, [3#8]⟩) := by
  decide +kernel

theorem witness_NewFlagMakesACall :
    (State.reset.live = false) ∧
      (playing.live = true ∧ playing.faults.has .config = false ∧ playing.faults.notePending = false ∧
        holdsNote playing.link.queue = false ∧ hasPlace playing.link.queue = true) ∧
      (let s := queued eight playing;
        s.live = true ∧ s.faults.has .config = false ∧ s.faults.notePending = false ∧
          holdsNote s.link.queue = true) ∧
      (let s := queued eightLevels playing;
        s.live = true ∧ s.faults.has .config = false ∧ s.faults.notePending = false ∧
          holdsNote s.link.queue = false ∧ hasPlace s.link.queue = false) ∧
      (let s := { playing with faults := { playing.faults with notePending := true } };
        s.live = true ∧ s.faults.has .config = false ∧ s.faults.notePending = true) := by
  decide +kernel

theorem witness_FramesTurnedAwayAreReported :
    (playing.readsFrame ∧ RawFrame.knownKind ⟨7#3, 2#6, 0x1F#5, List.replicate 8 0#8⟩ = none) ∧
      (RawFrame.knownKind ⟨0#3, 2#6, 1#5, [2#8, 0#8]⟩ = some .cancel ∧ 1 < (2#8 : Byte).toNat ∧
        byHand.readsFrame ∧ byHand.node = .handOnly) ∧
      (playing.runsAndReads ∧ (0#8 : Byte).toNat = 0 ∧ 48 < (49#8 : Byte).toNat ∧ 12 < (13#8 : Byte).toNat ∧
        127 < (128#8 : Byte).toNat ∧ 15 < (16#8 : Byte).toNat) ∧
      (128 < (127#8 : Byte).toNat + 2 ∧ playing.isTarget 1#8 = true) := by
  decide +kernel

theorem witness_FramesNotTakenChangeNothing :
    (frameOf (.level 2#6 1#8) = some ⟨4#3, 2#6, 6#5, [1#8]⟩ ∧ State.reset.live = false) ∧
      (let s := { playing with link := Link.initial };
        s.link.sending = none ∧ s.link.line = .seeking) ∧
      (byHand.readsFrame ∧ byHand.node = .handOnly ∧ (Instr.level 2#6 1#8).wellFormed = true ∧
        RawFrame.knownKind ⟨4#3, 2#6, 6#5, [1#8]⟩ = some .level ∧
        commandOf ⟨4#3, 2#6, 6#5, [1#8]⟩ = .level 2#6 1#8) := by
  decide +kernel

theorem witness_SenderTakesItsOwnFrame :
    let f := FrameKind.level.frame 1#6 [1#8]
    let s := sends (waits (.level true) 0) f playing
    (Instr.level 1#6 1#8).wellFormed = true ∧ commandOf f = .level 1#6 1#8 ∧
      frameOf (.level 1#6 1#8) = some f ∧ s.live = true ∧ s.link.sending = some f ∧
      s.link.queue = ⟨.level true, 0, true, false⟩ :: [] ∧
      ((QueueEntry.mk (.level true) 0 true false).body.isNote &&
        (QueueEntry.mk (.level true) 0 true false).merged) = false ∧
      (match Instr.level 1#6 1#8 with
        | .faultNote _ _ _ _ => false
        | _ => true) = true := by
  decide +kernel

theorem witness_NewTargetsQueueOrTurnTheMoves :
    busy.coilLaw ∧ 63 < busy.config.stops ∧
      StopSet.empty[(3 : StopNo)] ≠ busy.resolver.drawn[3] ∧ StopSet.empty[(9 : StopNo)] ≠ busy.resolver.drawn[9] ∧
      StopSet.empty[(0 : StopNo)] = busy.resolver.drawn[0] := by
  decide +kernel

theorem witness_RecallsTakeTheRecord :
    (playing.runsAndReads ∧ 1 ≤ (48#8 : Byte).toNat ∧ (48#8 : Byte).toNat ≤ 48 ∧ (127#8 : Byte).toNat ≤ 127) ∧
      ((0#8 : Byte) = divisionByte playing.straps.division ∧ (12#8 : Byte).toNat ≤ 12) ∧
      ((15#8 : Byte) ≠ divisionByte playing.straps.division ∧ (15#8 : Byte).toNat ≤ 15) ∧
      ((withBad 6143 playing).runsAndReads ∧ (withBad 6143 playing).store.readDamaged (127 * 48 + (48 - 1)) = true) ∧
      playing.store.readDamaged (127 * 48 + (48 - 1)) = false ∧
      playing.sequencer.stuckCount = playing.faults.stuckCount := by
  decide +kernel

theorem witness_CancelsRetireEveryStop :
    busy.node = .running ∧ playing.runsAndReads ∧ (0#8 : Byte) = divisionByte playing.straps.division ∧
      (15#8 : Byte) ≠ divisionByte playing.straps.division ∧ (15#8 : Byte).toNat ≤ 15 ∧
      playing.keepsLampReference (divisionOf 1#8) = true := by
  decide +kernel

theorem witness_CapturesStoreTheDrawnImage :
    (playing.runsAndReads ∧ playing.writeListLaw ∧ 1 ≤ (1#8 : Byte).toNat ∧ (127#8 : Byte).toNat ≤ 127 ∧
        (48#8 : Byte).toNat ≤ 48 ∧ (0#8 : Byte) = divisionByte playing.straps.division ∧ (12#8 : Byte).toNat ≤ 12) ∧
      ((15#8 : Byte) ≠ divisionByte playing.straps.division ∧ (15#8 : Byte).toNat ≤ 15) ∧
      (let full := writing (some .storing) ((List.range 8).map oneWrite) playing;
        full.runsAndReads ∧ full.writeListLaw ∧ full.store.writes.length = 8) := by
  decide +kernel

theorem witness_DeviateLevelAndLockActOnTheirRecord :
    let s := lamped playing
    (s.runsAndReads ∧ (∀ i : Fin 16, (s.outputs.lamps[i]).steady = s.steadyValue s.config.pistons[i]) ∧
        s.resolver.general.map (·.tag) = some ⟨2#6, 7#8⟩ ∧ (2#8 : Byte) ≠ 0#8 ∧ addressByte 2#6 = 2#8) ∧
      (s.resolver.divisional.map (·.tag) = some ⟨2#6, 8#8⟩ ∧ (0#8 : Byte) = divisionByte s.straps.division) ∧
      ((s.resolver.lampRefs[1]).map (·.tag) = some ⟨3#6, 9#8⟩ ∧ (1#8 : Byte) ≠ divisionByte s.straps.division ∧
        s.keepsLampReference (divisionOf 1#8) = true ∧ addressByte 3#6 = 3#8) ∧
      (s.resolver.general.map fun r => decide (addressByte r.tag.address ≠ 64#8)) = some true ∧ byHand.readsFrame := by
  decide +kernel

theorem witness_ShoeFramesSetTheCrescendo :
    (playing.runsAndReads ∧ playing.isHost = false) ∧
      (host.runsAndReads ∧ host.isHost = true ∧ (2#6 : Address) ≠ host.straps.address ∧
        (1#6 : Address) = host.straps.address ∧ host.shoe.unit = .active ∧ host.config.shoe ≠ none ∧
        host.shoe.program = 0 ∧ host.shoe.displayed = 4) ∧
      Shoe.unit { host.shoe with unit := .off } ≠ .active ∧
      Resolver.silence { playing.resolver with silence := .silent } = .silent ∧
      (withBad 7807 playing).store.readDamaged (7680 + 3 * 32 + 31) = true := by
  decide +kernel

theorem witness_TuttiSetsFollowTheFrame :
    playing.runsAndReads ∧ (1#8 : Byte) ≠ 0#8 ∧ (withBad 7935 playing).runsAndReads ∧
      (withBad 7935 playing).store.readDamaged (7808 + 127) = true ∧ playing.store.readDamaged (7808 + 127) = false := by
  decide +kernel

theorem witness_SilenceHoldsTheCrescendo :
    let s := fun k => { playing with resolver := { playing.resolver with silence := .fed k 0 } }
    ((s 3).node = .running ∧ (s 3).resolver.silence = .fed 3 0 ∧ 2 < 3) ∧ (s 2).resolver.silence = .fed 2 0 ∧ 2 ≤ 2 := by
  decide +kernel

theorem witness_ServiceFramesSetServiceAccess :
    (playing.readsFrame ∧ playing.isTarget 2#8 = false ∧ (1#8 : Byte) ≠ 0#8) ∧
      (playing.node = .running ∧ playing.service.mode = false) ∧
      (byHand.readsFrame ∧ byHand.isTarget 1#8 = true ∧ byHand.node = .handOnly) ∧
      ((serviced playing).readsFrame ∧ (serviced playing).isTarget 1#8 = true ∧ (serviced playing).node = .running ∧
        (serviced playing).service.mode = true ∧ (serviced playing).memoryLaw) := by
  decide +kernel

/-- Service mode with a write pointer. -/
def pointed (i part : Nat) (data : List Byte) (s : State) : State :=
  serviced { s with service := { s.service with writePointer := ⟨i, part⟩, received := data } }

theorem witness_StoreWriteBuildsARecord :
    (playing.readsFrame ∧ playing.serviceLaw ∧ playing.isTarget 2#8 = false ∧ playing.service.mode = false) ∧
      (let s := pointed 7935 1 (List.replicate 6 0#8) playing;
        s.readsFrame ∧ s.serviceLaw ∧ s.isTarget 1#8 = true ∧ s.service.mode = true ∧ s.service.writePointer.part < 2 ∧
          (List.replicate 5 (0#8 : Byte)).length ≠ 6) ∧
      (let s := pointed 7935 2 (List.replicate 12 0#8) playing;
        s.readsFrame ∧ s.serviceLaw ∧ s.isTarget 1#8 = true ∧ s.service.mode = true ∧ s.service.writePointer.part = 2 ∧
          s.writeListLaw ∧ s.levelLaw) := by
  refine ⟨?_, ?_, ?_⟩ <;> decide +kernel

/-- Its clauses for an admitted write of the tutti record, and of the stage record, in use. -/
theorem witness_StoreWriteBuildsARecord_reloads :
    (let s := pointed 7935 2 (List.replicate 12 0#8)
          { playing with resolver := { playing.resolver with tutti := true, tuttiLevel := 127 } };
        s.resolver.tutti = true ∧ s.service.writePointer.index = 7808 + s.resolver.tuttiLevel ∧ s.levelLaw) ∧
      (let s := pointed 7807 2 (List.replicate 12 0#8)
          { playing with resolver := { playing.resolver with program := 3, stage := 31 } };
        0 < s.resolver.stage ∧ s.service.writePointer.index = 7680 + s.resolver.program * 32 + s.resolver.stage ∧
          s.levelLaw) := by
  decide +kernel

theorem witness_ConfigWriteAndFaultClear :
    ((serviced playing).readsFrame ∧ (serviced playing).isTarget 1#8 = true ∧ (serviced playing).service.mode = true ∧
        1 ≤ ([5#8] : List Byte).length ∧ (127#8 : Byte).toNat + 1 ≤ 128) ∧
      (playing.readsFrame ∧ playing.isTarget 2#8 = false ∧ playing.node = .running ∧ playing.service.mode = false) ∧
      (playing.isTarget 1#8 = true ∧ playing.faults.notePending = false ∧ playing.link.queue.length < 8) ∧
      (let s := queued eightLevels playing;
        s.readsFrame ∧ s.isTarget 1#8 = true ∧ s.faults.notePending = false ∧ holdsNote s.link.queue = false ∧
          8 ≤ s.link.queue.length) ∧
      (let s := { playing with faults := { playing.faults with notePending := true } };
        s.readsFrame ∧ s.isTarget 1#8 = true ∧ s.faults.notePending = true) := by
  decide +kernel

theorem witness_ReportsTakenChangeNothing :
    (playing.readsFrame ∧ (List.replicate 4 (0#8 : Byte)).length = 4) ∧
      (let s := sends (waits .faultNote 0) ⟨7#3, 1#6, 0x1E#5, [4#8, 0#8, 0#8]⟩ playing;
        s.live = true ∧ s.link.sending = some ⟨7#3, 1#6, 0x1E#5, [4#8, 0#8, 0#8]⟩ ∧
          s.link.queue = ⟨.faultNote, 0, true, false⟩ :: [] ∧ s.faults.notePending = false) ∧
      (let s := sends ⟨.faultNote, 0, true, true⟩ ⟨7#3, 1#6, 0x1E#5, [4#8, 0#8, 0#8]⟩ playing;
        s.link.queue = ⟨.faultNote, 0, true, true⟩ :: [] ∧ hasPlace ([] : List QueueEntry) = true ∧
          holdsNote ([] : List QueueEntry) = false) := by
  decide +kernel

/-- A node with a part to answer. -/
def answering (part : Nat) (copy : Option EntryBytes) (s : State) : State :=
  { s with service := { s.service with readPointer := ⟨7935, part⟩, readCopy := copy, outstanding := 1 } }

theorem witness_RepliesAreOfferedAtAFreePlace :
    (let s := answering 0 none playing;
        s.serviceLaw ∧ s.replyMayBeOffered = true ∧ hasPlace s.link.queue = true ∧ s.service.scan = none ∧ 0 < s.service.outstanding ∧
          s.service.readPointer.part = 0 ∧ s.store.readDamaged s.service.readPointer.index = false) ∧
      (let s := answering 0 none (withBad 7935 playing);
        hasPlace s.link.queue = true ∧ s.service.readPointer.part = 0 ∧
          s.store.readDamaged s.service.readPointer.index = true ∧
          hasPlace (setFlag .damaged s).link.queue = true) ∧
      (let s := queued (eightLevels.drop 1) (answering 0 none (withBad 7935 playing));
        hasPlace s.link.queue = true ∧ s.service.readPointer.part = 0 ∧
          s.store.readDamaged s.service.readPointer.index = true ∧
          hasPlace (setFlag .damaged s).link.queue = false) ∧
      (∀ part ∈ [1, 2], hasPlace (answering part (some allLeave) playing).link.queue = true ∧
        (answering part (some allLeave) playing).service.readPointer.part = part ∧
        (answering part (some allLeave) playing).service.readCopy = some allLeave) ∧
      (let s := { withBad 7935 playing with service := { playing.service with scan := some 7935 } };
        s.replyMayBeOffered = true ∧ s.service.scan = some 7935 ∧ s.store.changedFlag 7935 = true) ∧
      (playing.store.changedFlag 7935 = false) ∧
      (let s := { playing with faults := ⟨16#10, 0, .none, true, true, none⟩ };
        s.live = true ∧ s.faults.notePending = true ∧ s.faults.retryDue = true ∧ s.faults.has .txOverflow = true ∧
          holdsNote (queued eight s).link.queue = true ∧ holdsNote s.link.queue = false ∧
          hasPlace s.link.queue = true ∧ holdsNote (queued eightLevels s).link.queue = false ∧
          hasPlace (queued eightLevels s).link.queue = false) ∧
      State.reset.replyMayBeOffered = false := by
  decide +kernel

theorem witness_OfferedWritesAreDecidedAgainstTheList :
    (let s := writing (some .storing) [oneWrite 5, oneWrite 5] playing;
        s.writeListLaw ∧ s.store.writes = [oneWrite 5] ++ oneWrite 5 :: [] ∧ (oneWrite 5).index = 5) ∧
      (let s := writing (some .storing) ((List.range 7).map oneWrite) playing;
        s.writeListLaw ∧ (∀ e ∈ s.store.waiting, e.index ≠ 0) ∧ s.store.writes.length < 8) ∧
      (let s := writing (some .storing) ((List.range 8).map oneWrite) playing;
        s.writeListLaw ∧ (∀ e ∈ s.store.waiting, e.index ≠ 0) ∧ s.store.writes.length = 8) ∧
      (let s := writing none [oneWrite 7935] playing;
        s.writeListLaw ∧ s.memoryLaw ∧ s.store.stage = none ∧ s.store.writes = oneWrite 7935 :: [] ∧
          s.pins.supplyGood = true ∧ s.live = true) ∧
      playing.store.writes = [] := by
  decide +kernel

/-- The hypotheses of its clauses at a state: the straps to come, a write in progress, and where the node is. -/
def endsAWrite (stage : WriteStage) (node : NodeState) (s : State) : Bool :=
  decide (s.store.writes = oneWrite 5 :: [] ∧ s.memoryLaw ∧ s.writeListLaw ∧ s.powered = true ∧ s.pins.strapsToCome = [] ∧ s.store.stage = some stage ∧
    s.node = node)

theorem witness_WritesEndWithAVerify :
    (let s := writing (some .storing) [oneWrite 5] playing;
        endsAWrite .storing .running s = true ∧ s.live = true ∧ s.powered = true) ∧
      ArrayBytes.mk (oneWrite 5).bytes 0#8 ≠ ArrayBytes.mk (oneWrite 5).bytes 255#8 ∧
      (let s := writing (some .forcing) [oneWrite 5] byHand;
        endsAWrite .forcing .handOnly s = true ∧ s.live = true) ∧
      (∀ stage ∈ [WriteStage.storing, .forcing], ∀ phase ∈ [StartPhase.lineHeld, .storeFinishing],
        endsAWrite stage (.starting phase)
          (writing (some stage) [oneWrite 5] { State.reset with node := .starting phase }) = true) ∧
      (strapsMove [⟨5#6, 3#4, true⟩] playing).pins.strapsToCome = ⟨5#6, 3#4, true⟩ :: [] := by
  decide +kernel

/-- Its clauses on a read: an index with two entries in the write list, and, with none, a record unwritten, good and
damaged. -/
theorem witness_WritesEndWithAVerify_reads :
    (writing none [oneWrite 5, oneWrite 5] playing).store.writes = [oneWrite 5] ++ oneWrite 5 :: [] ∧
      (∀ w ∈ playing.store.writes, w.index ≠ 7) ∧ (playing.store.array.read 7).written = false ∧
      (let m := (withBad 7 playing).store.array;
        (m.read 7).written = true ∧ (m.read 7).bytes.toList.sum + (m.read 7).check ≠ 0#8) ∧
      (let m : Memory := [(7, ⟨allLeave, 0#8, true, false⟩)];
        (m.read 7).written = true ∧ (m.read 7).bytes.toList.sum + (m.read 7).check = 0#8) := by
  decide +kernel

theorem witness_MovesGoOnAtTheirTimers :
    let s := fun m => moving 63 m playing
    ((s (.pulsing true .first 0)).node = .running ∧
        ((s (.pulsing true .first 0)).sequencer.motions[63]).motion = .pulsing true .first 0) ∧
      (((s (.settling true .first 0)).sequencer.motions[63]).motion = .settling true .first 0 ∧
        ((s (.settling true .first 0)).scanner.stops[63]).value ≠ true) ∧
      (((s (.settling false .second 0)).sequencer.motions[63]).motion = .settling false .second 0 ∧
        ((s (.settling false .second 0)).scanner.stops[63]).value = false) ∧
      (((s (.settling true .second 0)).sequencer.motions[63]).motion = .settling true .second 0 ∧
        ((s (.settling true .second 0)).scanner.stops[63]).value ≠ true) ∧
      ((s (.resting true false (some false) 0)).sequencer.motions[63]).motion = .resting true false (some false) 0 ∧
      (((s (.resting true true none 0)).sequencer.motions[63]).motion = .resting true true none 0 ∧
        ((s (.resting true true none 0)).scanner.stops[63]).value ≠ true) ∧
      (((s (.resting false false none 0)).sequencer.motions[63]).motion = .resting false false none 0 ∧
        ((s (.resting false false none 0)).scanner.stops[63]).value = false) ∧
      ∀ m, (s m).node = .running := by
  refine ⟨?_, ?_, ?_, ?_, ?_, ?_, ?_, fun _ => rfl⟩ <;> decide +kernel

theorem witness_SamplesMoveTheShoe :
    (playing.node = .running ∧ 1023 ≤ 1023 ∧ playing.shoe.unit ≠ .active) ∧
      (host.node = .running ∧ host.shoe.unit = .active ∧ host.config.shoe = some workedShoe ∧
        host.shoe.refresh ≠ none ∧ host.shoe.firstDone = true ∧ host.shoe.filter = some 4800 ∧ 4800 ≤ 16368 ∧
        0 < workedShoe.follower) ∧
      (let s := { host with shoe := { host.shoe with firstDone := false } };
        s.node = .running ∧ s.shoe.unit = .active ∧ s.config.shoe = some workedShoe ∧ s.shoe.firstDone = false) ∧
      (let s := { host with shoe := { host.shoe with follower := some 1 } };
        s.shoe.follower = some 1 ∧ s.shoe.displayed ≠ (s.shoe.sampled workedShoe 500).target) := by
  decide +kernel

theorem witness_StagesFollowThePosition :
    workedShoe.calibrated = true ∧ workedShoe.heel ≤ 1023 ∧ workedShoe.toe ≤ 1023 ∧ workedShoe.heel < workedShoe.toe ∧
      ShoeConfig.calibrated ⟨1023, 0, 63, 63, 4, 31, 31, 15⟩ = true ∧
      4 < workedShoe.reachedStage 304 ∧ workedShoe.reachedStage 502 ≤ 12 := by
  decide

theorem witness_OutputEventsChangeTheirOutput :
    (let s := { playing with outputs := { playing.outputs with shift := some StopSet.empty } };
        s.live = true ∧ s.outputs.shift = some StopSet.empty ∧ s.outputs.dirty = false) ∧
      (let s := { playing with outputs := { playing.outputs with shift := some StopSet.empty, dirty := true } };
        s.live = true ∧ s.outputs.shift = some StopSet.empty ∧ s.outputs.dirty = true) ∧
      (let s := { playing with outputs := { playing.outputs with
          lamps := put playing.outputs.lamps 15 ⟨true, some ⟨.slow, 1, 0⟩⟩ } };
        s.node = .running ∧ (s.outputs.lamps[15]).blink = some ⟨.slow, 1, 0⟩) ∧
      (let s := { byHand with outputs := { byHand.outputs with serviceBlink := some (true, 0) } };
        s.node = .handOnly ∧ s.outputs.serviceBlink = some (true, 0)) ∧
      (let s := { playing with config := { playing.config with pulseLine := true } };
        s.node = .running ∧ s.config.pulseLine = true) := by
  decide +kernel

end Sys2Proof.Tests
end

section
/-! PROOF. The timer expiries of a move: what a changed sequencer reports to the fault set, what each expiry makes of
the stop's record and of the move list, and the statement on the three commands (R63 to R66, R68, R78). -/

namespace Sys2Proof.Machine

/-! ### The fault set does not read the sequencer -/

/-- An operation of another block: it neither reads the sequencer nor changes it. -/
def IgnoresSequencer (f : State → State) : Prop :=
  ∀ (sq : Sequencer) (s : State), f { s with sequencer := sq } = { f s with sequencer := sq }

theorem IgnoresSequencer.comp {f g : State → State} (hg : IgnoresSequencer g) (hf : IgnoresSequencer f) :
    IgnoresSequencer fun s => g (f s) := by
  intro sq s
  dsimp only
  rw [hf, hg]

theorem IgnoresSequencer.ite {p : State → Prop} [DecidablePred p] {f g : State → State}
    (hp : ∀ sq s, p { s with sequencer := sq } ↔ p s) (hf : IgnoresSequencer f) (hg : IgnoresSequencer g) :
    IgnoresSequencer fun s => if p s then f s else g s := by
  intro sq s
  by_cases h : p s
  · simp only [if_pos ((hp sq s).2 h), if_pos h, hf sq s]
  · simp only [if_neg (mt (hp sq s).1 h), if_neg h, hg sq s]

theorem ignoresSequencer_id : IgnoresSequencer fun s => s := fun _ _ => rfl

theorem ignoresSequencer_raiseFlag (f : Flag) : IgnoresSequencer (raiseFlag f) := fun _ _ => rfl

theorem ignoresSequencer_setNotePending (p : Bool) : IgnoresSequencer (setNotePending p) := fun _ _ => rfl

/-- No payload is bound from the sequencer (R169, R170). -/
theorem ignoresSequencer_startAttempt : IgnoresSequencer startAttempt := by
  intro sq s
  have hframe (b : Body) : b.frame { s with sequencer := sq } = b.frame s := by cases b <;> rfl
  cases hq : s.link.queue with
  | nil => simp [startAttempt, hq]
  | cons e q =>
    by_cases h : s.link.line = .idle ∧ s.live = true
    · have h' : s.link.line = .idle ∧ { s with sequencer := sq }.live = true := h
      simp only [startAttempt, hq, hframe, if_pos h, if_pos h']
    · have h' : ¬ (s.link.line = .idle ∧ { s with sequencer := sq }.live = true) := h
      simp only [startAttempt, hq, if_neg h, if_neg h']

theorem ignoresSequencer_joinQueue (b : Body) : IgnoresSequencer (joinQueue b) :=
  ignoresSequencer_startAttempt.comp fun _ _ => rfl

theorem ignoresSequencer_offerNote : IgnoresSequencer offerNote :=
  .ite (fun _ _ => Iff.rfl) (fun _ _ => rfl)
    (.ite (fun _ _ => Iff.rfl) ((ignoresSequencer_joinQueue .faultNote).comp (ignoresSequencer_setNotePending false))
      (.ite (fun _ _ => Iff.rfl) (ignoresSequencer_setNotePending true)
        ((ignoresSequencer_raiseFlag .txOverflow).comp (ignoresSequencer_setNotePending true))))

theorem ignoresSequencer_noteCall : IgnoresSequencer noteCall :=
  .ite (fun _ _ => Iff.rfl) ignoresSequencer_id (ignoresSequencer_offerNote.comp (ignoresSequencer_setNotePending true))

theorem ignoresSequencer_setFlag (f : Flag) : IgnoresSequencer (setFlag f) :=
  .ite (fun _ _ => Iff.rfl) (ignoresSequencer_noteCall.comp (ignoresSequencer_raiseFlag f)) ignoresSequencer_id

/-! ### Reports keep the count and the flags already set -/

/-- The second fault set has the stuck count of the first and every flag of it. -/
def Faults.ExtendedBy (a b : Faults) : Prop :=
  b.stuckCount = a.stuckCount ∧ ∀ f, a.has f = true → b.has f = true

theorem extendedBy_raiseFlag (f : Flag) (s : State) : s.faults.ExtendedBy (raiseFlag f s).faults := by
  refine ⟨rfl, fun g hg => ?_⟩
  unfold Faults.has at hg
  simp [raiseFlag, Faults.has, Faults.withFlag, hg]

theorem has_raiseFlag (f : Flag) (s : State) : (raiseFlag f s).faults.has f = true := by
  cases f <;> simp [raiseFlag, Faults.has, Faults.withFlag, Flag.mask, Flag.bit]

/-- A FAULT-NOTE call clears no flag; it can only add TX_OVERFLOW (R182, R199). -/
theorem extendedBy_noteCall (s : State) : s.faults.ExtendedBy (noteCall s).faults := by
  rcases noteCall_cases s with ⟨-, e⟩ | ⟨-, e⟩
  · rw [e]; exact ⟨rfl, fun _ h => h⟩
  · rw [e]
    rcases offerNote_cases (setNotePending true s) with ⟨-, e⟩ | ⟨-, -, e⟩ | ⟨-, -, -, e⟩ | ⟨-, -, -, e⟩ <;> rw [e]
    · exact ⟨rfl, fun _ h => h⟩
    · rw [joinQueue_faults]; exact ⟨rfl, fun _ h => h⟩
    · exact ⟨rfl, fun _ h => h⟩
    · exact extendedBy_raiseFlag .txOverflow _

theorem stuckCount_setFlag (f : Flag) (s : State) : (setFlag f s).faults.stuckCount = s.faults.stuckCount := by
  rcases setFlag_cases f s with ⟨-, e⟩ | ⟨-, -, e⟩ <;> rw [e]
  exact (extendedBy_noteCall (raiseFlag f s)).1

/-- A cause reported to a node that plays leaves its flag set (R193, R194). -/
theorem has_setFlag {f : Flag} {s : State} (hl : s.live = true) : (setFlag f s).faults.has f = true := by
  rcases setFlag_cases f s with ⟨h | h, e⟩ | ⟨-, -, e⟩
  · simp [hl] at h
  · rwa [e]
  · rw [e]; exact (extendedBy_noteCall _).2 f (has_raiseFlag f s)

/-! ### The report of a changed sequencer -/

@[simp] theorem withSequencer_sequencer (sq : Sequencer) (s : State) : (withSequencer sq s).sequencer = sq := by
  unfold withSequencer
  rw [reportStuck_sequencer]

theorem withSequencer_of_count_same {sq : Sequencer} {s : State} (h : sq.stuckCount = s.faults.stuckCount) :
    withSequencer sq s = { s with sequencer := sq } := by
  simp only [withSequencer, reportStuck, if_pos h]

/-- A count that rises is reported as from the state before the sequencer changed. -/
theorem withSequencer_of_count_rises {sq : Sequencer} {s : State} (h : s.faults.stuckCount < sq.stuckCount) :
    withSequencer sq s =
      (let counted := { s with faults := { s.faults with stuckCount := sq.stuckCount } }
       { (if s.faults.has .stuck then noteCall counted else setFlag .stuck counted) with sequencer := sq }) := by
  simp only [withSequencer, reportStuck, reportStuckCount, if_neg h.ne', if_pos h]
  cases s.faults.has .stuck
  · exact ignoresSequencer_setFlag .stuck sq { s with faults := { s.faults with stuckCount := sq.stuckCount } }
  · exact ignoresSequencer_noteCall sq { s with faults := { s.faults with stuckCount := sq.stuckCount } }

theorem withSequencer_of_count_falls {sq : Sequencer} {s : State} (h : sq.stuckCount < s.faults.stuckCount) :
    withSequencer sq s = { s with
      sequencer := sq
      faults := { (if sq.stuckCount = 0 then s.faults.withoutFlag .stuck else s.faults) with
        stuckCount := sq.stuckCount } } := by
  simp only [withSequencer, reportStuck, reportStuckCount, if_neg h.ne, if_neg h.not_gt]
  by_cases h0 : sq.stuckCount = 0
  · simp only [if_pos h0]; rfl
  · simp only [if_neg h0]

/-- A changed sequencer makes the stuck count and the STUCK flag follow (R78, R194, R195). -/
theorem stuckFollows_withSequencer (sq : Sequencer) {s : State} (hl : s.live = true) :
    s.stuckFollows (withSequencer sq s) := by
  unfold State.stuckFollows
  rw [withSequencer_sequencer]
  rcases lt_trichotomy sq.stuckCount s.faults.stuckCount with h | h | h
  · rw [withSequencer_of_count_falls h]
    exact ⟨rfl, fun e => absurd e h.ne, fun e => absurd e h.not_gt, fun _ => ⟨rfl, rfl⟩⟩
  · rw [withSequencer_of_count_same h]
    exact ⟨h.symm, fun _ => ⟨rfl, rfl⟩, fun e => absurd h e.ne', fun e => absurd h e.ne⟩
  · rw [withSequencer_of_count_rises h]
    refine ⟨?_, fun e => absurd e h.ne', fun _ => ⟨?_, rfl, rfl⟩, fun e => absurd e h.not_gt⟩
    · dsimp only
      split
      · exact (extendedBy_noteCall _).1
      · exact stuckCount_setFlag _ _
    · dsimp only
      split
      · exact (extendedBy_noteCall _).2 .stuck ‹_›
      · exact has_setFlag hl

/-! ### What the end of a timer makes of the stop's record and of the move list -/

section
variable (sq : Sequencer) (n : StopNo)

theorem Sequencer.moveDone_eq :
    sq.moveDone n = { sq with motions := put sq.motions n ⟨.atRest, false⟩, moves := sq.moves.filter (· != n) } := rfl

theorem Sequencer.queueMove_eq (d : Bool) (attempt : Attempt) :
    sq.queueMove n d attempt = { sq with
      motions := put sq.motions n ⟨.queued d attempt, (sq.motions[n]).stuck⟩
      moves := sq.moves.filter (· != n) ++ [n] } := rfl

/-- The stop got there: the move is done (R64). -/
theorem Sequencer.settleCheck_of_reached {sense d : Bool} (h : sense = d) (attempt : Attempt) :
    sq.settleCheck n sense d attempt = sq.moveDone n := if_pos h

/-- The first attempt failed: a second is queued at the tail (R65). -/
theorem Sequencer.settleCheck_of_first {sense d : Bool} (h : sense ≠ d) :
    sq.settleCheck n sense d .first = sq.queueMove n d .second := if_neg h

/-- The second attempt failed: the stop is marked STUCK (R66). -/
theorem Sequencer.settleCheck_of_second {sense d : Bool} (h : sense ≠ d) :
    sq.settleCheck n sense d .second = { sq with
      motions := put sq.motions n ⟨.atRest, true⟩, moves := sq.moves.filter (· != n) } := if_neg h

/-- A rest that awaits a move queues it (R68). -/
theorem Sequencer.restEnd_of_awaiting (sense d e : Bool) :
    sq.restEnd n sense d (some e) = sq.queueMove n e .first := rfl

/-- A rest that awaits no move and finds the stop in place ends the move (R68). -/
theorem Sequencer.restEnd_of_reached {sense d : Bool} (h : sense = d) :
    sq.restEnd n sense d none = sq.moveDone n := if_pos h

/-- A rest that awaits no move and finds the stop elsewhere queues the move again (R68). -/
theorem Sequencer.restEnd_of_missed {sense d : Bool} (h : sense ≠ d) :
    sq.restEnd n sense d none = sq.queueMove n d .first := if_neg h

/-- The waits that hold the start rule back are untouched by a settle check and by the end of a rest (R62). -/
theorem Sequencer.settleCheck_waits (sense d : Bool) (attempt : Attempt) :
    (sq.settleCheck n sense d attempt).cutHold = sq.cutHold ∧
      (sq.settleCheck n sense d attempt).startWait = sq.startWait := by
  unfold Sequencer.settleCheck
  split
  · exact ⟨rfl, rfl⟩
  · cases attempt <;> exact ⟨rfl, rfl⟩

theorem Sequencer.restEnd_waits (sense d : Bool) (awaiting : Option Bool) :
    (sq.restEnd n sense d awaiting).cutHold = sq.cutHold ∧
      (sq.restEnd n sense d awaiting).startWait = sq.startWait := by
  cases awaiting with
  | some e => exact ⟨rfl, rfl⟩
  | none =>
    unfold Sequencer.restEnd
    dsimp only
    split <;> exact ⟨rfl, rfl⟩

end

/-! ### The three commands in RUNNING -/

section
variable {s : State} {n : StopNo}

theorem runs_of_running (h : s.node = .running) : s.runs = true := by simp [State.runs, h]

theorem live_of_running (h : s.node = .running) : s.live = true := by simp [State.live, h]

theorem senses_getElem (sc : Scanner) (n : StopNo) : sc.senses[n] = (sc.stops[n]).value := by
  simp [Scanner.senses]

theorem exec_pulseExpiry_of_pulsing {d : Bool} {k : Attempt} {left : Nat} (hr : s.node = .running)
    (hm : (s.sequencer.motions[n]).motion = .pulsing d k left) :
    exec (.pulseExpiry n) s =
      .next (startRule { s with sequencer := s.sequencer.pulseEnd n d k s.config.settleMs }) := by
  simp only [exec_pulseExpiry, execPulseExpiry, hm, runs_of_running hr, if_true]

theorem exec_settleCheck_of_settling {d : Bool} {k : Attempt} {left : Nat} (hr : s.node = .running)
    (hm : (s.sequencer.motions[n]).motion = .settling d k left) :
    exec (.settleCheck n) s =
      .next (startRule (withSequencer (s.sequencer.settleCheck n (s.scanner.stops[n]).value d k) s)) := by
  simp only [exec_settleCheck, execSettleCheck, hm, runs_of_running hr, if_true, senses_getElem]

theorem exec_restExpiry_of_resting {cut d : Bool} {w : Option Bool} {left : Nat} (hr : s.node = .running)
    (hm : (s.sequencer.motions[n]).motion = .resting cut d w left) :
    exec (.restExpiry n) s =
      .next (startRule (withSequencer (s.sequencer.restEnd n (s.scanner.stops[n]).value d w) s)) := by
  simp only [exec_restExpiry, execRestExpiry, hm, runs_of_running hr, if_true, senses_getElem]

end

/-- Settles O57: each timer hands the start rule the sequencer that its rule gives, reported to the fault set. -/
theorem movesGoOnAtTheirTimers : Obligations.MovesGoOnAtTheirTimers := by
  intro n s hr
  have hl := live_of_running hr
  refine ⟨fun d k left hm => exec_pulseExpiry_of_pulsing hr hm, fun d k left hm => ?_, fun cut d w left hm => ?_⟩
  · obtain ⟨hcut, hwait⟩ := s.sequencer.settleCheck_waits n (s.scanner.stops[n]).value d k
    refine ⟨_, exec_settleCheck_of_settling hr hm, withSequencer_frame _ s, stuckFollows_withSequencer _ hl, ?_⟩
    rw [withSequencer_sequencer]
    refine ⟨hcut, hwait, fun h => ?_, fun h hk => ?_, fun h hk => ?_⟩
    · rw [Sequencer.settleCheck_of_reached _ _ h, Sequencer.moveDone_eq]
      exact ⟨rfl, rfl⟩
    · rw [hk, Sequencer.settleCheck_of_first _ _ h, Sequencer.queueMove_eq]
      exact ⟨rfl, rfl⟩
    · rw [hk, Sequencer.settleCheck_of_second _ _ h]
      exact ⟨rfl, rfl⟩
  · obtain ⟨hcut, hwait⟩ := s.sequencer.restEnd_waits n (s.scanner.stops[n]).value d w
    refine ⟨_, exec_restExpiry_of_resting hr hm, withSequencer_frame _ s, stuckFollows_withSequencer _ hl, ?_⟩
    rw [withSequencer_sequencer]
    refine ⟨hcut, hwait, fun e hw => ?_, fun hw h => ?_, fun hw h => ?_⟩ <;> rw [hw]
    · rw [Sequencer.restEnd_of_awaiting, Sequencer.queueMove_eq]
      exact ⟨rfl, rfl⟩
    · rw [Sequencer.restEnd_of_reached _ _ h, Sequencer.moveDone_eq]
      exact ⟨rfl, rfl⟩
    · rw [Sequencer.restEnd_of_missed _ _ h, Sequencer.queueMove_eq]
      exact ⟨rfl, rfl⟩

end Sys2Proof.Machine
end

section
/-! PROOF. The piston stepper: the link going idle starts the head's attempt, a step RECALL goes out with the bound
position, and the rows of step-next and step-prev (R97 to R99, R170). -/

namespace Sys2Proof.Machine

/-! ### The start of an attempt -/

/-- An attempt starts on an idle link of a node that is live (R170). -/
theorem startAttempt_of_idle {s : State} {e : QueueEntry} {q : List QueueEntry} (hl : s.live = true)
    (hi : s.link.line = .idle) (hq : s.link.queue = e :: q) :
    startAttempt s = { s with link := { s.link with
      line := .frame, sending := some (e.body.frame s), queue := { e with underWay := true } :: q } } := by
  simp only [startAttempt, hq, hi, hl, and_self, if_true]

@[simp] theorem withLine_live (l : Line) (s : State) : (withLine l s).live = s.live := rfl

/-- No payload is bound from the line's state (R169, R170). -/
@[simp] theorem Body.frame_withLine (b : Body) (l : Line) (s : State) : b.frame (withLine l s) = b.frame s := by
  cases b <;> rfl

/-- LINK_IDLE starts the attempt of the queue's head (R170). -/
theorem exec_linkIdle_of_head {s : State} {e : QueueEntry} {q : List QueueEntry} (hl : s.live = true)
    (hline : s.link.line ≠ .frame) (hq : s.link.queue = e :: q) :
    exec .linkIdle s = .next { s with link := { s.link with
      line := .frame, sending := some (e.body.frame s), queue := { e with underWay := true } :: q } } := by
  have hstart := startAttempt_of_idle (s := withLine .idle s) hl rfl hq
  rw [Body.frame_withLine] at hstart
  have hguard : (s.live && s.link.line != .frame) = true := by simp [hl, hline]
  rw [exec_linkIdle, execLinkIdle, if_pos hguard, hstart]
  rfl

/-! ### The bound position -/

/-- A step RECALL goes out with the position bound now and with the step in its last byte (R97, R169, R170). -/
theorem exec_linkIdle_of_step {s : State} {e : QueueEntry} {q : List QueueEntry} {forward : Bool} {serial : Byte}
    (hl : s.live = true) (hline : s.link.line ≠ .frame) (hq : s.link.queue = e :: q)
    (hb : e.body = .step forward serial) {p : Nat × Nat}
    (hp : boundStep forward s.config.sequence s.resolver.level s.resolver.lastGeneral = p) :
    ∃ t, exec .linkIdle s = .next t ∧
      t.link.sending = some ⟨1#3, s.straps.address, 2#5,
        [0#8, divisionByte s.straps.division, lowByte p.2, lowByte p.1, serial, if forward then 1#8 else 2#8]⟩ := by
  refine ⟨_, exec_linkIdle_of_head hl hline hq, ?_⟩
  rw [hb, ← hp]
  rfl

section
variable {q l n : Nat}

theorem stepForward_of_lt (h : n < q) : stepForward q (l, n) = (l, n + 1) := if_pos h

theorem stepForward_of_le (h : q ≤ n) (hl : l < 127) : stepForward q (l, n) = (l + 1, 1) :=
  (if_neg h.not_gt).trans (if_pos hl)

theorem stepForward_of_last (h : q ≤ n) (hl : 127 ≤ l) : stepForward q (l, n) = (127, q) :=
  (if_neg h.not_gt).trans (if_neg hl.not_gt)

theorem stepBack_of_gt (h : q < n) : stepBack q (l, n) = (l, q) := if_pos h

theorem stepBack_of_two_le (h : n ≤ q) (hn : 2 ≤ n) : stepBack q (l, n) = (l, n - 1) :=
  (if_neg h.not_gt).trans (if_pos hn)

theorem stepBack_one_of_pos (h : 1 ≤ q) (hl : 0 < l) : stepBack q (l, 1) = (l - 1, q) :=
  (if_neg h.not_gt).trans ((if_neg (Nat.not_succ_le_self 1)).trans (if_pos hl))

theorem stepBack_zero_one (h : 1 ≤ q) : stepBack q (0, 1) = (0, 1) :=
  (if_neg h.not_gt).trans ((if_neg (by decide)).trans (if_neg (by decide)))

end

/-! ### The sequence length -/

/-- A value clamped to 1 and above: the range's ends outside it, itself inside (R222). -/
theorem clampTo_one (high n : Nat) (h : 1 ≤ high) :
    clampTo 1 high n = if n = 0 then 1 else if high < n then high else n := by
  unfold clampTo
  split
  · omega
  · split <;> omega

/-! ### The statements on the piston stepper -/

/-- Settles O35: the attempt's payload carries `stepForward` of the last general position, row by row of R98, and the
sequence length is byte 4 of the block clamped. -/
theorem stepNextIsBoundFromTheLastPosition : Obligations.StepNextIsBoundFromTheLastPosition := by
  refine ⟨fun s e q serial l n hl hline hq hb hlast => ?_, fun z b => clampTo_one 48 _ (by decide)⟩
  have hbound : boundStep true s.config.sequence s.resolver.level s.resolver.lastGeneral =
      stepForward s.config.sequence (l, n) := by rw [hlast]; rfl
  obtain ⟨t, hexec, hsent⟩ := exec_linkIdle_of_step hl hline hq hb hbound
  refine ⟨t, _, _, hexec, hsent, fun h => ?_, fun h hlow => ?_, fun h htop => ?_⟩
  · simp only [stepForward_of_lt h, and_self]
  · simp only [stepForward_of_le h hlow, and_self]
  · simp only [stepForward_of_last h htop.ge, and_self]

/-- Settles O36: the attempt's payload carries `stepBack` of the last general position, row by row of R99. -/
theorem stepPrevIsBoundFromTheLastPosition : Obligations.StepPrevIsBoundFromTheLastPosition := by
  intro s e q serial l n hl hline hq hb hlast _
  have hbound : boundStep false s.config.sequence s.resolver.level s.resolver.lastGeneral =
      stepBack s.config.sequence (l, n) := by rw [hlast]; rfl
  obtain ⟨t, hexec, hsent⟩ := exec_linkIdle_of_step hl hline hq hb hbound
  refine ⟨t, _, _, hexec, hsent, fun h => ?_, fun htwo h => ?_, fun hone h hpos => ?_, fun hone h hzero => ?_⟩
  · simp only [stepBack_of_gt h, and_self]
  · simp only [stepBack_of_two_le h htwo, and_self]
  · subst hone
    simp only [stepBack_one_of_pos h hpos, and_self]
  · subst hone hzero
    simp only [stepBack_zero_one h, and_self]

end Sys2Proof.Machine
end

section
/-! PROOF. The TUTTI frames: what a RUNNING node does with a frame it takes, what a read of a damaged record answers,
the outputs after the speaking set is recomputed, and the statement on the two frames (R6, R38, R84, R137 to R139,
R189). -/

namespace Sys2Proof.Machine

/-! ### A frame of another station, acted on in RUNNING -/

/-- A node in RUNNING that reads the frame acts on it, where no value of the frame is out of range (R178, R179). -/
theorem takeFrame_whenRunning {c : Instr} {s : State} (act : State → State) (h : s.runsAndReads)
    (hw : c.wellFormed = true) (hrange : s.frameTaken.rangeFault c = false) :
    takeFrame c (fun _ => whenRunning c act) s = act s.frameTaken := by
  obtain ⟨hnode, hsending, hline⟩ := h
  rw [takeFrame_other _ (live_of_running hnode) hw hsending hline]
  have hruns : s.frameTaken.runs = true := runs_of_running hnode
  simp only [whenRunning, hrange, hruns, Bool.false_eq_true, if_false, if_true]

theorem exec_tuttiOn_of_runsAndReads {a : Address} {state l : Byte} {s : State} (h : s.runsAndReads)
    (hstate : state ≠ 0#8) :
    exec (.tuttiOn a state l) s = .next (tuttiOnEffect (clampLevel l) s.frameTaken) := by
  rw [exec_tuttiOn, execTuttiOn, takeFrame_whenRunning _ h (by simpa using hstate) rfl]

theorem exec_tuttiOff_of_runsAndReads {a : Address} {l : Byte} {s : State} (h : s.runsAndReads) :
    exec (.tuttiOff a l) s = .next (refreshSpeaking (tuttiGoesOff s.frameTaken)) := by
  rw [exec_tuttiOff, execTuttiOff, takeFrame_whenRunning _ h rfl rfl]

/-- A level clamped to 127: 127 above it, itself up to it (R137, R179). -/
theorem clampLevel_eq (l : Byte) : clampLevel l = if 127 < l.toNat then 127 else l.toNat := by
  unfold clampLevel
  split <;> omega

/-! ### Reading a record -/

/-- A damaged record answers all LEAVE (R38). -/
theorem Store.answer_of_readDamaged {st : Store} {i : Nat} (h : st.readDamaged i = true) :
    st.answer i = allLeave := by
  unfold Store.readDamaged at h
  unfold Store.answer
  cases hnew : newestWrite st.writes i with
  | some e => simp [hnew] at h
  | none =>
    simp only [hnew] at h
    simp [Record.answer, h]

theorem readRecord_of_damaged {i : Nat} {s : State} (h : s.store.readDamaged i = true) :
    readRecord i s = setFlag .damaged s := if_pos h

theorem readRecord_of_sound {i : Nat} {s : State} (h : s.store.readDamaged i = false) : readRecord i s = s :=
  if_neg (by simp [h])

@[simp] theorem entryOfCode_eq_draw {c : BitVec 2} : entryOfCode c = .draw ↔ c = 1#2 := by
  revert c; decide

@[simp] theorem entryOfCode_eq_retire {c : BitVec 2} : entryOfCode c = .retire ↔ c = 2#2 := by
  revert c; decide

theorem mem_stopsWith_combination {e : Entry} (he : e ≠ .leave) (s : State) (i : Nat) (n : StopNo) :
    (stopsWith e (s.combination i))[n] = true ↔
      n.val < s.config.stops ∧ entryOfCode (entryCode (s.store.answer i) n) = e := by
  by_cases hn : n.val < s.config.stops
  · simp [stopsWith, State.combination, combinationView, hn]
  · simp [stopsWith, State.combination, combinationView, hn, he.symm]

@[simp] theorem entryOfCode_allLeave (n : StopNo) : entryOfCode (entryCode allLeave n) = .leave := by
  simp [entryCode, allLeave, entryOfCode]

/-- A damaged record has no stop with an entry other than LEAVE (R38). -/
theorem stopsWith_combination_of_damaged {e : Entry} (he : e ≠ .leave) {s : State} {i : Nat}
    (h : s.store.readDamaged i = true) : stopsWith e (s.combination i) = StopSet.empty := by
  refine table_ext fun n => ?_
  have hmem := mem_stopsWith_combination he s i n
  rw [Store.answer_of_readDamaged h, entryOfCode_allLeave] at hmem
  rw [getElem_empty, ← Bool.not_eq_true, hmem]
  exact fun hn => he hn.2.symm

/-! ### The outputs after the speaking set is recomputed -/

/-- The chain of outputs takes a speaking set that differs: it shifts at once where it is idle, and else is dirty
(R189). -/
theorem refreshSpeaking_outputs {s : State} (hl : s.live = true) :
    (refreshSpeaking s).outputs =
      if s.resolver.speaks s.config.stops = s.resolver.speaking then s.outputs
      else if s.outputs.shift = none then
        { s.outputs with dirty := false, shift := some (s.resolver.speaks s.config.stops) }
      else { s.outputs with dirty := true } := by
  unfold refreshSpeaking
  dsimp only
  split
  · rfl
  · unfold startShift
    have hlive (r : Resolver) (o : Outputs) : { s with resolver := r, outputs := o }.live = true := hl
    cases s.outputs.shift <;> simp [hlive]

@[simp] theorem refreshSpeaking_lamps (s : State) : (refreshSpeaking s).outputs.lamps = s.outputs.lamps := by
  unfold refreshSpeaking
  dsimp only
  split
  · rfl
  · unfold startShift
    split <;> rfl

/-- The speaking set is computed from the other fields of the resolver (R6). -/
theorem Resolver.speaks_withSpeaking (r : Resolver) (x : StopSet) (stops : Nat) :
    { r with speaking := x }.speaks stops = r.speaks stops := rfl

/-- After a refresh the speaking set is the one R6 gives from the resolver as it stands then. -/
theorem refreshSpeaking_eq (s : State) :
    refreshSpeaking s = { s with
      resolver := { s.resolver with speaking := (refreshSpeaking s).resolver.speaks s.config.stops }
      outputs := (refreshSpeaking s).outputs } := by
  have hspeaks : (refreshSpeaking s).resolver.speaks s.config.stops = s.resolver.speaks s.config.stops := by
    rw [refreshSpeaking_resolver]
    exact Resolver.speaks_withSpeaking s.resolver _ _
  rw [hspeaks, ← refreshSpeaking_resolver]
  exact refreshSpeaking_frame s

/-- The outputs follow the speaking set, from any state with the outputs and the speaking set that the refresh
starts from (R84, R189). -/
theorem shiftFollows_refreshSpeaking {s u : State} (hl : u.live = true) (hout : u.outputs = s.outputs)
    (hspeaking : u.resolver.speaking = s.resolver.speaking) : s.shiftFollows (refreshSpeaking u) := by
  unfold State.shiftFollows
  rw [refreshSpeaking_outputs hl, refreshSpeaking_resolver, hout, hspeaking]
  split
  · rename_i h
    exact ⟨rfl, fun _ => ⟨rfl, rfl⟩, fun hne => absurd h hne, fun hne => absurd h hne⟩
  · rename_i h
    split
    · rename_i hidle
      exact ⟨rfl, fun he => absurd he h, fun _ _ => ⟨rfl, rfl⟩, fun _ hbusy => absurd hidle hbusy⟩
    · rename_i hbusy
      exact ⟨rfl, fun he => absurd he h, fun _ hidle => absurd hidle hbusy, fun _ _ => ⟨rfl, rfl⟩⟩

/-! ### The effects of the two frames -/

/-- The tutti record of a level read, with the tutti level taken (R137). -/
def readTutti (v : Nat) (s : State) : State :=
  readRecord (tuttiIndex v) { s with resolver := { s.resolver with tuttiLevel := v } }

theorem readTutti_of_damaged {v : Nat} {s : State} (h : s.store.readDamaged (tuttiIndex v) = true) :
    readTutti v s = setFlag .damaged { s with resolver := { s.resolver with tuttiLevel := v } } :=
  readRecord_of_damaged h

theorem readTutti_of_sound {v : Nat} {s : State} (h : s.store.readDamaged (tuttiIndex v) = false) :
    readTutti v s = { s with resolver := { s.resolver with tuttiLevel := v } } :=
  readRecord_of_sound h

/-- The resolver with tutti on at a level, before the speaking set is recomputed (R137, R138). -/
def State.tuttiOnResolver (v : Nat) (s : State) : Resolver :=
  { s.resolver with
    tutti := true
    tuttiLamp := true
    tuttiLevel := v
    tuttiAdd := stopsWith .draw (s.combination (tuttiIndex v))
    tuttiSilence := stopsWith .retire (s.combination (tuttiIndex v)) }

/-- TUTTI_ON reads the record, loads both sets and recomputes the speaking set (R137). -/
theorem tuttiOnEffect_eq (v : Nat) (s : State) :
    tuttiOnEffect v s = refreshSpeaking { s with
      resolver := s.tuttiOnResolver v
      link := (readTutti v s).link
      faults := (readTutti v s).faults } := by
  have hread : { readTutti v s with resolver := s.tuttiOnResolver v } = { s with
      resolver := s.tuttiOnResolver v
      link := (readTutti v s).link
      faults := (readTutti v s).faults } :=
    congrArg (fun t : State => { t with resolver := s.tuttiOnResolver v }) (readRecord_frame (tuttiIndex v) _)
  rw [← hread]
  simp only [tuttiOnEffect, loadTutti, readTutti, State.tuttiOnResolver, State.combination, readRecord_resolver,
    readRecord_config, readRecord_store]

theorem tuttiOnEffect_link (v : Nat) (s : State) : (tuttiOnEffect v s).link = (readTutti v s).link := by
  rw [tuttiOnEffect_eq, refreshSpeaking_link]

theorem tuttiOnEffect_faults (v : Nat) (s : State) : (tuttiOnEffect v s).faults = (readTutti v s).faults := by
  rw [tuttiOnEffect_eq, refreshSpeaking_faults]

/-- TUTTI_ON changes the tutti fields, the speaking set, link, outputs and faults (R137, R138). -/
theorem tuttiOnEffect_frame (v : Nat) (s : State) :
    tuttiOnEffect v s = { s with
      resolver := { s.tuttiOnResolver v with speaking := (tuttiOnEffect v s).resolver.speaks s.config.stops }
      link := (tuttiOnEffect v s).link
      outputs := (tuttiOnEffect v s).outputs
      faults := (tuttiOnEffect v s).faults } := by
  rw [tuttiOnEffect_link, tuttiOnEffect_faults, tuttiOnEffect_eq]
  exact refreshSpeaking_eq _

/-- The stops that the tutti record draws are added, and those it retires are silenced (R137, R138). -/
theorem tuttiOnEffect_sets (v : Nat) (s : State) :
    (tuttiOnEffect v s).resolver.tuttiAdd = stopsWith .draw (s.combination (tuttiIndex v)) ∧
      (tuttiOnEffect v s).resolver.tuttiSilence = stopsWith .retire (s.combination (tuttiIndex v)) := by
  rw [tuttiOnEffect_frame]
  exact ⟨rfl, rfl⟩

/-- A damaged tutti record is reported (R38, R137). -/
theorem tuttiOnEffect_has_damaged {v : Nat} {s : State} (hl : s.live = true)
    (hbad : s.store.readDamaged (tuttiIndex v) = true) : (tuttiOnEffect v s).faults.has .damaged = true := by
  rw [tuttiOnEffect_faults, readTutti_of_damaged hbad]
  exact has_setFlag hl

/-- A sound tutti record makes no report (R38). -/
theorem tuttiOnEffect_of_sound {v : Nat} {s : State} (hgood : s.store.readDamaged (tuttiIndex v) = false) :
    (tuttiOnEffect v s).faults = s.faults ∧ (tuttiOnEffect v s).link = s.link := by
  rw [tuttiOnEffect_faults, tuttiOnEffect_link, readTutti_of_sound hgood]
  exact ⟨rfl, rfl⟩

/-- The outputs follow the speaking set that TUTTI_ON gives. -/
theorem shiftFollows_tuttiOnEffect (v : Nat) {s : State} (hl : s.live = true) :
    s.shiftFollows (tuttiOnEffect v s) := by
  rw [tuttiOnEffect_eq]
  exact shiftFollows_refreshSpeaking hl rfl rfl

@[simp] theorem tuttiOnEffect_lamps (v : Nat) (s : State) :
    (tuttiOnEffect v s).outputs.lamps = s.outputs.lamps := by
  rw [tuttiOnEffect_eq, refreshSpeaking_lamps]

/-- The outputs follow the speaking set that TUTTI_OFF gives. -/
theorem shiftFollows_tuttiGoesOff {s : State} (hl : s.live = true) :
    s.shiftFollows (refreshSpeaking (tuttiGoesOff s)) :=
  shiftFollows_refreshSpeaking hl rfl rfl

/-! ### The statement on the TUTTI frames -/

/-- A frame taken moves no output and no speaking set (R167, R216). -/
theorem shiftFollows_frameTaken {s t : State} : s.frameTaken.shiftFollows t ↔ s.shiftFollows t := Iff.rfl

/-- Settles O48: TUTTI_ON is `tuttiOnEffect` of the level clamped, whose sets are the DRAW and the RETIRE stops of one
record, and TUTTI_OFF is `tuttiGoesOff`; both end with the speaking set recomputed. -/
theorem tuttiSetsFollowTheFrame : Obligations.TuttiSetsFollowTheFrame := by
  intro a state l s h
  have hl : s.frameTaken.live = true := live_of_running h.1
  refine ⟨fun hstate => ?_, ?_⟩
  · have hexec := exec_tuttiOn_of_runsAndReads (a := a) (l := l) h hstate
    generalize hv : clampLevel l = v at hexec
    obtain ⟨hadd, hsilence⟩ := tuttiOnEffect_sets v s.frameTaken
    refine ⟨_, v, hexec, hv ▸ clampLevel_eq l, ?_, fun n => ?_, fun hbad => ?_, fun hgood => ?_,
      shiftFollows_frameTaken.1 (shiftFollows_tuttiOnEffect v hl), tuttiOnEffect_lamps v _⟩
    · rw [hadd, hsilence]
      exact tuttiOnEffect_frame v s.frameTaken
    · rw [hadd, hsilence, mem_stopsWith_combination (by decide), mem_stopsWith_combination (by decide),
        entryOfCode_eq_draw, entryOfCode_eq_retire]
      exact ⟨Iff.rfl, Iff.rfl⟩
    · rw [hadd, hsilence]
      exact ⟨tuttiOnEffect_has_damaged hl hbad, stopsWith_combination_of_damaged (by decide) hbad,
        stopsWith_combination_of_damaged (by decide) hbad⟩
    · exact tuttiOnEffect_of_sound hgood
  · exact ⟨_, exec_tuttiOff_of_runsAndReads h, refreshSpeaking_eq (tuttiGoesOff s.frameTaken),
      shiftFollows_frameTaken.1 (shiftFollows_tuttiGoesOff hl), refreshSpeaking_lamps _⟩

end Sys2Proof.Machine
end

section
/-! PROOF. The transmit queue as a list: what an insertion, an eviction, an attempt and an update in place make of its
order, its ages and its counts (R181, R183 to R185). -/

namespace Sys2Proof.Machine

/-! ### The order of two entries -/

theorem QueueEntry.before_iff {a b : QueueEntry} :
    a.before b = true ↔ a.body.cls < b.body.cls ∨ a.body.cls = b.body.cls ∧ a.age < b.age := by
  simp [QueueEntry.before]

theorem QueueEntry.before_trans {a b c : QueueEntry} (hab : a.before b = true) (hbc : b.before c = true) :
    a.before c = true := by
  rw [QueueEntry.before_iff] at *
  omega

/-- Of two entries of different ages one goes before the other. -/
theorem QueueEntry.before_of_not_before {a b : QueueEntry} (hage : a.age ≠ b.age) (h : a.before b = false) :
    b.before a = true := by
  rw [← Bool.not_eq_true, QueueEntry.before_iff] at h
  rw [QueueEntry.before_iff]
  omega

/-- A younger entry goes before those of a higher class only. -/
theorem QueueEntry.before_of_younger {a b : QueueEntry} (hage : b.age < a.age) :
    a.before b = true ↔ a.body.cls < b.body.cls := by
  rw [QueueEntry.before_iff]
  omega

theorem inOrder_iff {q : List QueueEntry} : inOrder q = true ↔ q.Pairwise fun a b => a.before b = true := by
  induction q with
  | nil => simp [inOrder]
  | cons e q ih => simp [inOrder, ih, List.pairwise_cons]

/-! ### Waiting entries -/

/-- Entries none of which is under way, in order. -/
structure WaitInOrder (q : List QueueEntry) : Prop where
  waiting : ∀ e ∈ q, e.underWay = false
  ordered : q.Pairwise fun a b => a.before b = true

theorem WaitInOrder.sublist {q r : List QueueEntry} (h : WaitInOrder q) (hr : r.Sublist q) : WaitInOrder r :=
  ⟨fun e he => h.waiting e (hr.subset he), h.ordered.sublist hr⟩

theorem WaitInOrder.tail {e : QueueEntry} {q : List QueueEntry} (h : WaitInOrder (e :: q)) : WaitInOrder q :=
  h.sublist (List.sublist_cons_self e q)

theorem waitingEntries_cons_of_underWay {e : QueueEntry} {q : List QueueEntry} (h : e.underWay = true) :
    waitingEntries (e :: q) = q := by simp [waitingEntries, h]

theorem waitingEntries_of_waiting {q : List QueueEntry} (h : ∀ e ∈ q, e.underWay = false) :
    waitingEntries q = q := by
  cases q with
  | nil => rfl
  | cons e q => simp [waitingEntries, h e]

/-- All entries but the head wait. -/
theorem waitInOrder_tail {e : QueueEntry} {q : List QueueEntry} (h : WaitInOrder (waitingEntries (e :: q))) :
    WaitInOrder q := by
  cases hu : e.underWay
  · simp only [waitingEntries, hu, Bool.false_eq_true, if_false] at h
    exact h.tail
  · rwa [waitingEntries_cons_of_underWay hu] at h

/-! ### Insertion -/

theorem insertEntry_perm (e : QueueEntry) (q : List QueueEntry) : (insertEntry e q).Perm (e :: q) := by
  induction q with
  | nil => exact .refl _
  | cons f q ih =>
    have hswap : (f :: insertEntry e q).Perm (e :: f :: q) := (ih.cons f).trans (.swap e f q)
    unfold insertEntry
    split
    · exact hswap
    · split
      · exact .refl _
      · exact hswap

theorem mem_insertEntry {e f : QueueEntry} {q : List QueueEntry} : f ∈ insertEntry e q ↔ f = e ∨ f ∈ q := by
  rw [(insertEntry_perm e q).mem_iff, List.mem_cons]

theorem waitingEntries_insertEntry {e : QueueEntry} (he : e.underWay = false) (q : List QueueEntry) :
    waitingEntries (insertEntry e q) = insertEntry e (waitingEntries q) := by
  cases q with
  | nil => simp [waitingEntries, insertEntry, he]
  | cons f q =>
    cases hf : f.underWay
    · cases hb : e.before f <;> simp [waitingEntries, insertEntry, hf, hb, he]
    · simp [waitingEntries, insertEntry, hf]

/-- An entry of an age of its own takes its place in the order (R181). -/
theorem WaitInOrder.insert {e : QueueEntry} {q : List QueueEntry} (h : WaitInOrder q) (he : e.underWay = false)
    (hage : ∀ f ∈ q, e.age ≠ f.age) : WaitInOrder (insertEntry e q) := by
  refine ⟨fun f hf => ?_, ?_⟩
  · rcases mem_insertEntry.1 hf with rfl | hf
    · exact he
    · exact h.waiting f hf
  · induction q with
    | nil => simp [insertEntry]
    | cons f q ih =>
      obtain ⟨hfq, -⟩ := List.pairwise_cons.1 h.ordered
      cases hb : e.before f <;>
        simp only [insertEntry, h.waiting f List.mem_cons_self, hb, Bool.false_eq_true, if_false, if_true]
      · refine List.pairwise_cons.2 ⟨fun g hg => ?_, ih h.tail fun g hg => hage g (List.mem_cons_of_mem f hg)⟩
        rcases mem_insertEntry.1 hg with rfl | hg
        · exact QueueEntry.before_of_not_before (hage f List.mem_cons_self) hb
        · exact hfq g hg
      · refine List.pairwise_cons.2 ⟨fun g hg => ?_, h.ordered⟩
        rcases List.mem_cons.1 hg with rfl | hg
        · exact hb
        · exact QueueEntry.before_trans hb (hfq g hg)

/-- Where an entry is inserted: behind a head under way and every entry it does not go before, ahead of the rest. -/
theorem insertEntry_split {q : List QueueEntry} (h : WaitInOrder (waitingEntries q)) (e : QueueEntry) :
    ∃ before after, q = before ++ after ∧ insertEntry e q = before ++ e :: after ∧
      (∀ f ∈ after, f.underWay = false ∧ e.before f = true) ∧
      ∀ f ∈ before, f.underWay = true ∨ e.before f = false := by
  induction q with
  | nil => exact ⟨[], [], rfl, rfl, by simp, by simp⟩
  | cons f q ih =>
    have hq := waitInOrder_tail h
    obtain ⟨before, after, hsplit, hins, hafter, hbefore⟩ := ih (by rwa [waitingEntries_of_waiting hq.waiting])
    have hbehind (hf : f.underWay = true ∨ e.before f = false) (hins' : insertEntry e (f :: q) = f :: insertEntry e q) :
        ∃ before after, f :: q = before ++ after ∧ insertEntry e (f :: q) = before ++ e :: after ∧
          (∀ f ∈ after, f.underWay = false ∧ e.before f = true) ∧
          ∀ f ∈ before, f.underWay = true ∨ e.before f = false :=
      ⟨f :: before, after, by simp [hsplit], by simp [hins', hins], hafter, by simpa using ⟨hf, hbefore⟩⟩
    cases hu : f.underWay
    · cases hb : e.before f
      · exact hbehind (.inr hb) (by simp [insertEntry, hu, hb])
      · refine ⟨[], f :: q, rfl, by simp [insertEntry, hu, hb], fun g hg => ?_, by simp⟩
        rcases List.mem_cons.1 hg with rfl | hg
        · exact ⟨hu, hb⟩
        · have hpair : (f :: q).Pairwise fun a b => a.before b = true := by
            simpa [waitingEntries, hu] using h.ordered
          exact ⟨hq.waiting g hg, QueueEntry.before_trans hb ((List.pairwise_cons.1 hpair).1 g hg)⟩
    · exact hbehind (.inl hu) (by simp [insertEntry, hu])

/-! ### The queue's law -/

/-- The law of a queue whose next admission has age `next` (R181); `State.queueLaw` says it of the link's. -/
structure QueueWf (q : List QueueEntry) (next : Nat) : Prop where
  length : q.length ≤ queueLimit
  shoes : (q.countP fun e => e.body.isShoe) ≤ 1
  notes : (q.countP fun e => e.body.isNote) ≤ 1
  order : WaitInOrder (waitingEntries q)
  ages : (q.map QueueEntry.age).Nodup
  older : ∀ e ∈ q, e.age < next

theorem State.queueLaw_iff {s : State} : s.queueLaw ↔ QueueWf s.link.queue s.link.admitted := by
  simp only [State.queueLaw, inOrder_iff]
  exact ⟨fun ⟨a, b, c, d, e, f, g⟩ => ⟨a, b, c, ⟨d, e⟩, f, g⟩, fun h =>
    ⟨h.length, h.shoes, h.notes, h.order.waiting, h.order.ordered, h.ages, h.older⟩⟩

theorem QueueWf.nil (next : Nat) : QueueWf [] next :=
  ⟨by simp [queueLimit], by simp, by simp, ⟨by simp [waitingEntries], by simp [waitingEntries]⟩, by simp, by simp⟩

theorem holdsShoe_eq_false {q : List QueueEntry} : holdsShoe q = false ↔ (q.countP fun e => e.body.isShoe) = 0 := by
  simp [holdsShoe, List.countP_eq_zero]

theorem holdsNote_eq_false {q : List QueueEntry} : holdsNote q = false ↔ (q.countP fun e => e.body.isNote) = 0 := by
  simp [holdsNote, List.countP_eq_zero]

theorem hasPlace_iff {q : List QueueEntry} : hasPlace q = true ↔ q.length < queueLimit := by simp [hasPlace]

/-- The entry a frame has when it joins the queue (R181). -/
abbrev QueueEntry.admitted (b : Body) (age : Nat) : QueueEntry := ⟨b, age, false, false⟩

/-- A frame joins a free place; a second SHOE or FAULT-NOTE does not join (R181, R183, R184). -/
theorem QueueWf.join {q : List QueueEntry} {next : Nat} {b : Body} (h : QueueWf q next) (hroom : hasPlace q = true)
    (hshoe : b.isShoe = true → holdsShoe q = false) (hnote : b.isNote = true → holdsNote q = false) :
    QueueWf (insertEntry (.admitted b next) q) (next + 1) := by
  have hperm := insertEntry_perm (.admitted b next) q
  refine ⟨?_, ?_, ?_, ?_, ?_, fun e he => ?_⟩
  · simpa [hperm.length_eq] using hasPlace_iff.1 hroom
  · rw [hperm.countP_eq, List.countP_cons]
    have := h.shoes
    rw [holdsShoe_eq_false] at hshoe
    split <;> simp_all
  · rw [hperm.countP_eq, List.countP_cons]
    have := h.notes
    rw [holdsNote_eq_false] at hnote
    split <;> simp_all
  · rw [waitingEntries_insertEntry rfl]
    refine h.order.insert rfl fun f hf => ?_
    have hmem : f ∈ q := by
      cases q with
      | nil => simp [waitingEntries] at hf
      | cons e q => simp only [waitingEntries] at hf; split at hf <;> simp_all
    exact (h.older f hmem).ne'
  · rw [(hperm.map QueueEntry.age).nodup_iff, List.map_cons, List.nodup_cons]
    refine ⟨fun hmem => ?_, h.ages⟩
    obtain ⟨f, hf, hage⟩ := List.mem_map.1 hmem
    exact absurd (h.older f hf) (by simp [hage])
  · rcases mem_insertEntry.1 he with rfl | he
    · exact Nat.lt_succ_self next
    · exact Nat.lt_succ_of_lt (h.older e he)

/-- A part of the queue in its order keeps the law, where its waiting entries are those of the queue. -/
theorem QueueWf.sublist {q r : List QueueEntry} {next : Nat} (h : QueueWf q next) (hr : r.Sublist q)
    (hw : WaitInOrder (waitingEntries r)) : QueueWf r next :=
  ⟨hr.length_le.trans h.length, (hr.countP_le).trans h.shoes, (hr.countP_le).trans h.notes, hw,
    h.ages.sublist (hr.map _), fun e he => h.older e (hr.subset he)⟩

/-- The head leaves. -/
theorem QueueWf.tail {e : QueueEntry} {q : List QueueEntry} {next : Nat} (h : QueueWf (e :: q) next) :
    QueueWf q next :=
  have hq := waitInOrder_tail h.order
  h.sublist (List.sublist_cons_self e q) (by rwa [waitingEntries_of_waiting hq.waiting])

/-- An entry that waits is taken out. -/
theorem QueueWf.erase {q : List QueueEntry} {next : Nat} {v : QueueEntry} (h : QueueWf q next)
    (hv : v.underWay = false) : QueueWf (q.erase v) next := by
  refine h.sublist List.erase_sublist ?_
  cases q with
  | nil => exact h.order
  | cons e q =>
    have hq := waitInOrder_tail h.order
    cases hu : e.underWay
    · have hall : WaitInOrder (e :: q) := by simpa [waitingEntries, hu] using h.order
      have herase := hall.sublist (r := (e :: q).erase v) List.erase_sublist
      rwa [waitingEntries_of_waiting herase.waiting]
    · have hne : e ≠ v := fun he => by simp [he, hv] at hu
      rw [List.erase_cons_tail (by simpa using hne), waitingEntries_cons_of_underWay hu]
      exact hq.sublist List.erase_sublist

/-- Two entries that the law does not tell apart. -/
structure QueueEntry.Alike (a b : QueueEntry) : Prop where
  cls : b.body.cls = a.body.cls
  shoe : b.body.isShoe = a.body.isShoe
  note : b.body.isNote = a.body.isNote
  age : b.age = a.age
  underWay : b.underWay = a.underWay

theorem QueueEntry.Alike.refl (a : QueueEntry) : a.Alike a := ⟨rfl, rfl, rfl, rfl, rfl⟩

theorem QueueEntry.Alike.before {a b a' b' : QueueEntry} (ha : a.Alike a') (hb : b.Alike b') :
    a'.before b' = a.before b := by
  simp only [QueueEntry.before, ha.cls, ha.age, hb.cls, hb.age]

/-- Entries changed in place, each to one alike. -/
abbrev AlikeQueues : List QueueEntry → List QueueEntry → Prop := List.Forall₂ QueueEntry.Alike

theorem AlikeQueues.refl (q : List QueueEntry) : AlikeQueues q q :=
  List.forall₂_same.2 fun e _ => .refl e

theorem AlikeQueues.countP {q r : List QueueEntry} {p : QueueEntry → Bool} (h : AlikeQueues q r)
    (hp : ∀ a b, a.Alike b → p b = p a) : r.countP p = q.countP p := by
  induction h with
  | nil => rfl
  | cons hab _ ih => simp only [List.countP_cons, ih, hp _ _ hab]

theorem AlikeQueues.ages {q r : List QueueEntry} (h : AlikeQueues q r) :
    r.map QueueEntry.age = q.map QueueEntry.age := by
  induction h with
  | nil => rfl
  | cons hab _ ih => simp only [List.map_cons, ih, hab.age]

theorem AlikeQueues.waitInOrder {q r : List QueueEntry} (h : AlikeQueues q r) (hq : WaitInOrder q) : WaitInOrder r := by
  induction h with
  | nil => exact hq
  | @cons a b q r hab hqr ih =>
    obtain ⟨hw, ho⟩ := ih hq.tail
    have hfirst := (List.pairwise_cons.1 hq.ordered).1
    refine ⟨fun e he => ?_, List.pairwise_cons.2 ⟨fun e he => ?_, ho⟩⟩
    · rcases List.mem_cons.1 he with rfl | he
      · exact hab.underWay.trans (hq.waiting a List.mem_cons_self)
      · exact hw e he
    · obtain ⟨i, hi, rfl⟩ := List.mem_iff_getElem.1 he
      have hi' : i < q.length := hqr.length_eq ▸ hi
      have hbefore := hab.before (hqr.get hi' hi)
      exact hbefore.trans (hfirst _ (List.getElem_mem hi'))

theorem AlikeQueues.waitingEntries {q r : List QueueEntry} (h : AlikeQueues q r) :
    AlikeQueues (waitingEntries q) (waitingEntries r) := by
  cases h with
  | nil => exact .nil
  | cons hab hqr =>
    simp only [Machine.waitingEntries, hab.underWay]
    split
    · exact hqr
    · exact .cons hab hqr

/-- Entries changed in place, each to one alike, keep the law. -/
theorem QueueWf.alike {q r : List QueueEntry} {next : Nat} (h : QueueWf q next) (hr : AlikeQueues q r) :
    QueueWf r next := by
  refine ⟨hr.length_eq ▸ h.length, ?_, ?_, hr.waitingEntries.waitInOrder h.order, hr.ages ▸ h.ages, fun e he => ?_⟩
  · exact (hr.countP fun _ _ hab => hab.shoe) ▸ h.shoes
  · exact (hr.countP fun _ _ hab => hab.note) ▸ h.notes
  · obtain ⟨f, hf, hage⟩ := List.mem_map.1 (hr.ages ▸ List.mem_map_of_mem (f := QueueEntry.age) he)
    exact hage ▸ h.older f hf

/-- The head is marked under way or not, and loses or gets a mark. -/
theorem QueueWf.markHead {e : QueueEntry} {q : List QueueEntry} {next : Nat} (h : QueueWf (e :: q) next) (m : Bool) :
    QueueWf ({ e with underWay := true, merged := m } :: q) next :=
  ⟨h.length, h.shoes, h.notes, by rw [waitingEntries_cons_of_underWay rfl]; exact waitInOrder_tail h.order, h.ages,
    by simpa using h.older⟩

/-- The head goes back to its order among the waiting frames (R171, R181). -/
theorem QueueWf.release {q : List QueueEntry} {next : Nat} (h : QueueWf q next) : QueueWf (releaseHead q) next := by
  cases q with
  | nil => exact h
  | cons e q =>
    have hperm := insertEntry_perm { e with underWay := false, merged := false } q
    have htail := waitInOrder_tail h.order
    have hnodup := List.nodup_cons.1 h.ages
    have hcount (p : Body → Bool) : ((releaseHead (e :: q)).countP fun f => p f.body) = (e :: q).countP fun f => p f.body :=
      hperm.countP_eq _
    refine ⟨hperm.length_eq ▸ h.length, hcount _ ▸ h.shoes, hcount _ ▸ h.notes, ?_, ?_, fun f hf => ?_⟩
    · rw [releaseHead, waitingEntries_insertEntry rfl, waitingEntries_of_waiting htail.waiting]
      exact htail.insert rfl fun f hf hage => hnodup.1 (hage ▸ List.mem_map_of_mem (f := QueueEntry.age) hf)
    · exact (hperm.map QueueEntry.age).nodup_iff.2 h.ages
    · rcases mem_insertEntry.1 hf with rfl | hf
      · exact h.older e List.mem_cons_self
      · exact h.older f (List.mem_cons_of_mem e hf)

/-! ### Updates in place -/

theorem alikeQueues_map {f : QueueEntry → QueueEntry} (hf : ∀ e : QueueEntry, e.Alike (f e)) (q : List QueueEntry) :
    AlikeQueues q (q.map f) := by
  induction q with
  | nil => exact .nil
  | cons e q ih => exact .cons (hf e) ih

theorem alikeQueues_updateShoe (p k : Byte) (q : List QueueEntry) : AlikeQueues q (updateShoe p k q) := by
  unfold updateShoe
  refine alikeQueues_map (fun e => ?_) q
  exact ⟨Body.updated_cls .., Body.updated_isShoe .., Body.updated_isNote .., rfl, rfl⟩

theorem alikeQueues_mergeNote (q : List QueueEntry) : AlikeQueues q (mergeNote q) := by
  unfold mergeNote
  refine alikeQueues_map (fun e => ?_) q
  split <;> exact ⟨rfl, rfl, rfl, rfl, rfl⟩

/-- A press that is rewritten is a RECALL before and after (R154). -/
theorem alike_rewritten {e : QueueEntry} {sc : Scope} {d : Byte} (h : e.matchesPress sc d = true)
    (piston level serial : Byte) : e.Alike { e with body := .recall sc d piston level serial } := by
  obtain ⟨body, age, underWay, merged⟩ := e
  cases body <;> simp [QueueEntry.matchesPress] at h
  exact ⟨rfl, rfl, rfl, rfl, rfl⟩

theorem alikeQueues_rewritePress {sc : Scope} {d piston level serial : Byte} {q r : List QueueEntry}
    (h : rewritePress sc d piston level serial q = some r) : AlikeQueues q r := by
  induction q generalizing r with
  | nil => simp [rewritePress] at h
  | cons e q ih =>
    unfold rewritePress at h
    split at h
    · rename_i hm
      obtain rfl := Option.some.inj h
      exact .cons (alike_rewritten (Bool.and_eq_true_iff.1 hm).1 ..) (AlikeQueues.refl q)
    · obtain ⟨r', hr', rfl⟩ := Option.map_eq_some_iff.1 h
      exact .cons (.refl e) (ih hr')

/-! ### The frame that an eviction takes -/

/-- The victim waits, and every other waiting frame goes before it (R185). -/
theorem evictionVictim_spec {q : List QueueEntry} :
    (evictionVictim q = none → ∀ e ∈ q, e.underWay = true) ∧
      ∀ v, evictionVictim q = some v → v ∈ q ∧ v.underWay = false := by
  induction q with
  | nil => simp [evictionVictim]
  | cons e q ih =>
    unfold evictionVictim
    cases hu : e.underWay
    · cases hv : evictionVictim q with
      | none => simp [hu]
      | some v =>
        obtain ⟨hmem, hw⟩ := ih.2 v hv
        cases hb : e.before v <;> simp [hu, hb, hmem, hw]
    · simp only [if_true, List.mem_cons, forall_eq_or_imp]
      exact ⟨fun h => ⟨hu, ih.1 h⟩, fun v hv => ⟨.inr (ih.2 v hv).1, (ih.2 v hv).2⟩⟩

end Sys2Proof.Machine
end

section
/-! PROOF. Reports and offers: which flags a report changes, and what every offer, call and line event keeps of the
queue's laws and of the following flags (R181 to R186, R193 to R201). -/

namespace Sys2Proof.Machine

/-! ### Single flags -/

theorem Flag.getLsbD_mask (f g : Flag) : f.mask.getLsbD g.bit.val = decide (g = f) := by
  cases f <;> cases g <;> rfl

@[simp] theorem Faults.has_withFlag (fs : Faults) (f g : Flag) : (fs.withFlag f).has g = (fs.has g || decide (g = f)) := by
  simp only [Faults.has, Faults.withFlag, BitVec.getLsbD_or, Flag.getLsbD_mask]

@[simp] theorem Faults.has_withoutFlag (fs : Faults) (f g : Flag) :
    (fs.withoutFlag f).has g = (fs.has g && !decide (g = f)) := by
  have hbit : g.bit.val < 10 := g.bit.isLt
  simp only [Faults.has, Faults.withoutFlag, BitVec.getLsbD_and, BitVec.getLsbD_not, Flag.getLsbD_mask, hbit,
    decide_true, Bool.true_and]

theorem Faults.has_congr {a b : Faults} (h : a.flags = b.flags) (f : Flag) : a.has f = b.has f := by
  simp only [Faults.has, h]

@[simp] theorem raiseFlag_has (f g : Flag) (s : State) :
    (raiseFlag f s).faults.has g = (s.faults.has g || decide (g = f)) :=
  Faults.has_withFlag s.faults f g

@[simp] theorem clearFlag_has (f g : Flag) (s : State) :
    (clearFlag f s).faults.has g = (s.faults.has g && !decide (g = f)) :=
  Faults.has_withoutFlag s.faults f g

/-- An offer of a FAULT-NOTE can set TX_OVERFLOW and no other flag (R182). -/
theorem offerNote_has {g : Flag} (hg : g ≠ .txOverflow) (s : State) : (offerNote s).faults.has g = s.faults.has g := by
  rcases offerNote_cases s with ⟨-, e⟩ | ⟨-, -, e⟩ | ⟨-, -, -, e⟩ | ⟨-, -, -, e⟩ <;> rw [e]
  · rfl
  · rw [joinQueue_faults]; rfl
  · rfl
  · rw [raiseFlag_has, decide_eq_false hg, Bool.or_false]; rfl

theorem noteCall_has {g : Flag} (hg : g ≠ .txOverflow) (s : State) : (noteCall s).faults.has g = s.faults.has g := by
  rcases noteCall_cases s with ⟨-, e⟩ | ⟨-, e⟩ <;> rw [e]
  exact offerNote_has hg _

/-- A report changes no flag but its own and TX_OVERFLOW (R193). -/
theorem setFlag_has_other {f g : Flag} (hf : g ≠ f) (hg : g ≠ .txOverflow) (s : State) :
    (setFlag f s).faults.has g = s.faults.has g := by
  rcases setFlag_cases f s with ⟨-, e⟩ | ⟨-, -, e⟩ <;> rw [e]
  rw [noteCall_has hg, raiseFlag_has, decide_eq_false hf, Bool.or_false]

/-! ### Link and fault set beside the other blocks -/

theorem live_congr {s t : State} (h : t.node = s.node) : t.live = s.live := by simp only [State.live, h]
theorem runs_congr {s t : State} (h : t.node = s.node) : t.runs = s.runs := by simp only [State.runs, h]
theorem powered_congr {s t : State} (h : t.node = s.node) : t.powered = s.powered := by simp only [State.powered, h]

theorem live_of_runs {s : State} (h : s.runs = true) : s.live = true :=
  live_of_running (by simpa [State.runs] using h)

theorem node_of_runs {s : State} (h : s.runs = true) : s.node = .running := by simpa [State.runs] using h

/-- The count of stuck stops and the following flags are the same (R194). -/
structure Faults.SameCauses (a b : Faults) : Prop where
  count : b.stuckCount = a.stuckCount
  stuck : b.has .stuck = a.has .stuck
  silent : b.has .shoeSilent = a.has .shoeSilent
  config : b.has .config = a.has .config

theorem Faults.SameCauses.refl (a : Faults) : a.SameCauses a := ⟨rfl, rfl, rfl, rfl⟩

theorem Faults.SameCauses.trans {a b c : Faults} (h : a.SameCauses b) (h' : b.SameCauses c) : a.SameCauses c :=
  ⟨h'.count.trans h.count, h'.stuck.trans h.stuck, h'.silent.trans h.silent, h'.config.trans h.config⟩

/-- What every offer, call and line event is: it changes link and fault set only, keeps the queue's laws and the stuck
count, and sets no flag in a node that does not play. -/
structure Offers (s t : State) : Prop where
  frame : t = { s with link := t.link, faults := t.faults }
  queue : s.queueLaw → t.queueLaw
  division : s.shoeDivisionLaw → t.shoeDivisionLaw
  count : t.faults.stuckCount = s.faults.stuckCount
  flags : s.queueLaw → s.live = false → t.faults.flags = s.faults.flags

section
variable {s t u : State}

theorem Offers.node (h : Offers s t) : t.node = s.node := by rw [h.frame]
theorem Offers.straps (h : Offers s t) : t.straps = s.straps := by rw [h.frame]

theorem Offers.refl (s : State) : Offers s s := ⟨rfl, id, id, rfl, fun _ _ => rfl⟩

theorem Offers.trans (h : Offers s t) (h' : Offers t u) : Offers s u where
  frame := by rw [h'.frame, h.frame]
  queue hq := h'.queue (h.queue hq)
  division hd := h'.division (h.division hd)
  count := h'.count.trans h.count
  flags hq hl := (h'.flags (h.queue hq) ((live_congr h.node).trans hl)).trans (h.flags hq hl)

/-- A step that leaves the queue and the flags alone. -/
theorem Offers.of_queue_same (frame : t = { s with link := t.link, faults := t.faults })
    (queue : t.link.queue = s.link.queue) (admitted : t.link.admitted = s.link.admitted)
    (count : t.faults.stuckCount = s.faults.stuckCount)
    (flags : s.live = false → t.faults.flags = s.faults.flags) : Offers s t where
  frame := frame
  queue hq := by rw [State.queueLaw_iff, queue, admitted]; exact State.queueLaw_iff.1 hq
  division hd := by
    obtain ⟨hown, hempty⟩ := hd
    have hlive : t.live = s.live := live_congr (by rw [frame])
    have hstraps : t.straps = s.straps := by rw [frame]
    exact ⟨by rwa [queue, hstraps], by rwa [queue, hlive]⟩
  count := count
  flags _ := flags

/-- A step that changes the queue of a node that plays, or leaves an empty queue empty. -/
theorem Offers.of_queue (frame : t = { s with link := t.link, faults := t.faults })
    (count : t.faults.stuckCount = s.faults.stuckCount) (flags : t.faults.flags = s.faults.flags)
    (queue : s.queueLaw → t.queueLaw)
    (own : ∀ d, (∀ e ∈ s.link.queue, e.body.shoeDivisionIs d = true) → d = s.straps.division →
      ∀ e ∈ t.link.queue, e.body.shoeDivisionIs d = true)
    (empty : s.live = false → s.link.queue = [] → t.link.queue = []) : Offers s t where
  frame := frame
  queue := queue
  division hd := by
    have hlive : t.live = s.live := live_congr (by rw [frame])
    have hstraps : t.straps = s.straps := by rw [frame]
    exact ⟨hstraps ▸ own _ hd.1 rfl, fun hl => empty (hlive ▸ hl) (hd.2 (hlive ▸ hl))⟩
  count := count
  flags _ _ := flags

/-! ### Each offer and each event of the line -/

theorem offers_startAttempt (s : State) : Offers s (startAttempt s) := by
  rcases startAttempt_cases s with e | ⟨h, q, hq, -, hl, e⟩ <;> rw [e]
  · exact .refl s
  · refine .of_queue rfl rfl rfl (fun hlaw => ?_) (fun d hown _ => ?_) (fun hl' => by simp [hl] at hl')
    · rw [State.queueLaw_iff] at hlaw ⊢
      rw [hq] at hlaw
      exact hlaw.markHead h.merged
    · rw [hq] at hown
      simpa using hown

/-- A frame joins a part of the queue that has a free place. -/
theorem offers_joinPart {b : Body} {q : List QueueEntry} (hl : s.live = true ∨ s.link.queue ≠ []) (hsub : ∀ e ∈ q, e ∈ s.link.queue)
    (hroom : s.queueLaw → QueueWf q s.link.admitted ∧ hasPlace q = true)
    (hshoe : b.isShoe = true → holdsShoe q = false) (hnote : b.isNote = true → holdsNote q = false)
    (hown : b.shoeDivisionIs s.straps.division = true) :
    Offers s (joinQueue b { s with link := { s.link with queue := q } }) := by
  refine .trans (t := { s with link := { s.link with
    queue := insertEntry (.admitted b s.link.admitted) q, admitted := s.link.admitted + 1 } })
    (.of_queue rfl rfl rfl (fun hlaw => ?_) (fun d hd hself e he => ?_) fun hl' hq => ?_) (offers_startAttempt _)
  · obtain ⟨hwf, hplace⟩ := hroom hlaw
    exact State.queueLaw_iff.2 (hwf.join hplace hshoe hnote)
  · rcases mem_insertEntry.1 he with rfl | he
    · exact hself ▸ hown
    · exact hd e (hsub e he)
  · simp [hl', hq] at hl

/-- A frame joins a free place of a node that plays. -/
theorem offers_joinQueue {b : Body} (hl : s.live = true) (hroom : hasPlace s.link.queue = true)
    (hshoe : b.isShoe = true → holdsShoe s.link.queue = false)
    (hnote : b.isNote = true → holdsNote s.link.queue = false)
    (hown : b.shoeDivisionIs s.straps.division = true) : Offers s (joinQueue b s) :=
  offers_joinPart (q := s.link.queue) (.inl hl) (fun _ h => h) (fun h => ⟨State.queueLaw_iff.1 h, hroom⟩) hshoe hnote hown

theorem offers_setNotePending (p : Bool) (s : State) : Offers s (setNotePending p s) :=
  .of_queue_same rfl rfl rfl rfl fun _ => rfl

theorem offers_raiseFlag (f : Flag) (hl : s.live = true) : Offers s (raiseFlag f s) :=
  .of_queue_same rfl rfl rfl rfl fun hl' => by simp [hl] at hl'

theorem offers_mergeNote (s : State) :
    Offers s { s with link := { s.link with queue := mergeNote s.link.queue } } := by
  refine .of_queue rfl rfl rfl (fun hlaw => ?_) (fun d hown _ e he => ?_) fun _ hq => by simp [hq, mergeNote]
  · rw [State.queueLaw_iff] at hlaw ⊢
    exact hlaw.alike (alikeQueues_mergeNote _)
  · obtain ⟨f, hf, rfl⟩ := List.mem_map.1 he
    split <;> exact hown f hf

theorem offers_updateShoe (p k : Byte) (s : State) :
    Offers s { s with link := { s.link with queue := updateShoe p k s.link.queue } } := by
  refine .of_queue rfl rfl rfl (fun hlaw => ?_) (fun d hown _ e he => ?_) fun _ hq => by simp [hq, updateShoe]
  · rw [State.queueLaw_iff] at hlaw ⊢
    exact hlaw.alike (alikeQueues_updateShoe p k _)
  · obtain ⟨f, hf, rfl⟩ := List.mem_map.1 he
    simpa using hown f hf

/-- A FAULT-NOTE is offered by a node that plays. -/
theorem offers_offerNote (hl : s.live = true) : Offers s (offerNote s) := by
  rcases offerNote_cases s with ⟨-, e⟩ | ⟨hnote, hroom, e⟩ | ⟨-, -, -, e⟩ | ⟨-, -, -, e⟩ <;> rw [e]
  · exact (offers_mergeNote s).trans (offers_setNotePending false _)
  · exact (offers_setNotePending false s).trans
      (offers_joinQueue hl hroom (fun h => by cases h) (fun _ => hnote) rfl)
  · exact offers_setNotePending true s
  · exact (offers_setNotePending true s).trans (offers_raiseFlag _ hl)

theorem offers_noteCall (hl : s.live = true) : Offers s (noteCall s) := by
  rcases noteCall_cases s with ⟨-, e⟩ | ⟨-, e⟩ <;> rw [e]
  · exact .refl s
  · exact (offers_setNotePending true s).trans (offers_offerNote hl)

theorem offers_setFlag (f : Flag) (s : State) : Offers s (setFlag f s) := by
  rcases setFlag_cases f s with ⟨-, e⟩ | ⟨hl, -, e⟩ <;> rw [e]
  · exact .refl s
  · exact (offers_raiseFlag f hl).trans (offers_noteCall hl)

/-- An eviction makes the place that the CANCEL takes (R185). -/
theorem offers_evictFor {b : Body} (hl : s.live = true) (hshoe : b.isShoe = false) (hnote : b.isNote = false)
    (hown : b.shoeDivisionIs s.straps.division = true) : Offers s (evictFor b s) := by
  unfold evictFor
  split
  · exact offers_setFlag _ s
  · rename_i v hv
    obtain ⟨hmem, hwait⟩ := evictionVictim_spec.2 v hv
    have hroom : s.queueLaw → QueueWf (s.link.queue.erase v) s.link.admitted ∧ hasPlace (s.link.queue.erase v) = true := by
      intro hlaw
      have hwf := State.queueLaw_iff.1 hlaw
      have hpos := List.length_pos_of_mem hmem
      have hlen := hwf.length
      refine ⟨hwf.erase hwait, ?_⟩
      rw [hasPlace_iff, List.length_erase_of_mem hmem]
      omega
    have hjoin := offers_joinPart (b := b) (.inl hl) (fun _ he => List.mem_of_mem_erase he) hroom (by simp [hshoe])
      (by simp [hnote]) hown
    dsimp only
    split
    · exact (hjoin.trans (offers_setNotePending true _)).trans (offers_setFlag _ _)
    · exact hjoin.trans (offers_setFlag _ _)

/-- An offer by the rules of R182 and R183, of a SHOE only with the node's own division (R123). -/
theorem offers_offer {b : Body} (hl : s.live = true) (hnote : b.isNote = false)
    (hown : b.shoeDivisionIs s.straps.division = true) : Offers s (offer b s).1 := by
  cases hshoe : b.isShoe
  · have hjoin (hroom : hasPlace s.link.queue = true) : Offers s (joinQueue b s) :=
      offers_joinQueue hl hroom (by simp [hshoe]) (by simp [hnote]) hown
    cases hcancel : b.isCancel
    · rw [offer_plain hshoe hcancel]
      split
      · exact hjoin ‹_›
      · exact offers_setFlag _ s
    · obtain ⟨sc, d, rfl⟩ : ∃ sc d, b = .cancel sc d := by cases b <;> simp_all [Body.isCancel]
      rw [offer_cancel]
      split
      · exact hjoin ‹_›
      · exact offers_evictFor hl hshoe hnote hown
  · obtain ⟨d, p, k, rfl⟩ : ∃ d p k, b = .shoe d p k := by cases b <;> simp_all [Body.isShoe]
    rw [offer_shoe]
    split
    · exact offers_updateShoe p k s
    · split
      · exact offers_joinQueue hl ‹_› (fun _ => by simp_all) (fun h => by cases h) hown
      · exact offers_setFlag _ s

/-- The node's own SHOE is offered with its own division (R123). -/
theorem offers_offerShoe (hl : s.live = true) : Offers s (offerShoe s) :=
  offers_offer hl rfl (by simp [Body.shoeDivisionIs])

/-- What holds of every frame in the queue, and of a press RECALL, holds when one is rewritten. -/
theorem rewritePress_forall {p : Body → Prop} {sc : Scope} {d piston level serial : Byte} {q r : List QueueEntry}
    (hp : p (.recall sc d piston level serial)) (hq : ∀ e ∈ q, p e.body)
    (h : rewritePress sc d piston level serial q = some r) : ∀ e ∈ r, p e.body := by
  induction q generalizing r with
  | nil => simp [rewritePress] at h
  | cons f q ih =>
    obtain ⟨hf, hq⟩ := List.forall_mem_cons.1 hq
    unfold rewritePress at h
    split at h
    · obtain rfl := Option.some.inj h
      exact List.forall_mem_cons.2 ⟨hp, hq⟩
    · obtain ⟨r', hr', rfl⟩ := Option.map_eq_some_iff.1 h
      exact List.forall_mem_cons.2 ⟨hf, ih hq hr'⟩

/-- The head leaves the queue; a marked FAULT-NOTE is followed by a new offer (R174, R184). The queue that the head left
has a free place, so that offer sets no flag. -/
theorem offers_headLeaves (s : State) : Offers s (headLeaves s) := by
  rcases headLeaves_cases s with ⟨-, e⟩ | ⟨h, q, hq, e⟩ <;> rw [e]
  · exact .of_queue_same rfl rfl rfl rfl fun _ => rfl
  generalize hu : ({ s with
    link := { s.link with sending := none, queue := q }
    faults := { s.faults with retryDue := s.faults.notePending } } : State) = u
  have hbase : Offers s u := by
    subst hu
    refine .of_queue rfl rfl rfl (fun hlaw => ?_) (fun d hown _ e he => hown e (by simp [hq, he])) (by simp [hq])
    rw [State.queueLaw_iff] at hlaw ⊢
    rw [hq] at hlaw
    exact hlaw.tail
  have hroom (hlaw : s.queueLaw) : QueueWf q s.link.admitted ∧ hasPlace q = true := by
    have hwf := State.queueLaw_iff.1 hlaw
    rw [hq] at hwf
    exact ⟨hwf.tail, hasPlace_iff.2 hwf.length⟩
  cases h.body.isNote && h.merged
  · exact hbase
  · simp only [if_true]
    have hqueue : u.link.queue = q := by rw [← hu]
    rcases offerNote_cases u with ⟨-, e⟩ | ⟨hnote, -, e⟩ | ⟨-, -, -, e⟩ | ⟨-, hfull, -, e⟩ <;> rw [e]
    · exact hbase.trans ((offers_mergeNote u).trans (offers_setNotePending false _))
    · have hfaults : Offers s { s with
          link := { s.link with sending := none }
          faults := { s.faults with retryDue := false, notePending := false } } :=
        .of_queue_same rfl rfl rfl rfl fun _ => rfl
      subst hu
      exact hfaults.trans (offers_joinPart (.inr (by simp [hq])) (fun e he => by simp [hq, he])
        (fun hlaw => hroom hlaw) (fun h => by cases h) (fun _ => hnote) rfl)
    · exact hbase.trans (offers_setNotePending true u)
    · refine ⟨by rw [hbase.frame]; rfl, hbase.queue, hbase.division, hbase.count, fun hlaw _ => ?_⟩
      rw [hqueue, (hroom hlaw).2] at hfull
      cases hfull

/-- The stuck count is reported (R78, R195); the count itself is the sequencer's. -/
theorem offers_reportStuckCount (k : Nat) (hl : s.live = true) :
    Offers { s with faults := { s.faults with stuckCount := k } } (reportStuckCount k s) := by
  unfold reportStuckCount
  dsimp only
  split
  · split
    · exact offers_noteCall hl
    · exact offers_setFlag _ _
  · split
    · exact .of_queue_same rfl rfl rfl rfl fun hl' => by simp [State.live] at hl hl'; simp_all
    · exact .refl _

theorem offers_releaseHead (s : State) :
    Offers s { s with link := { s.link with sending := none, queue := releaseHead s.link.queue } } := by
  refine .of_queue rfl rfl rfl (fun hlaw => ?_) (fun d hown _ e he => ?_) fun _ hq => by simp [hq, releaseHead]
  · rw [State.queueLaw_iff] at hlaw ⊢
    exact hlaw.release
  · cases hq : s.link.queue with
    | nil => simp [hq, releaseHead] at he
    | cons f q =>
      simp only [hq, releaseHead, mem_insertEntry] at he
      rw [hq] at hown
      rcases he with rfl | he
      · exact hown f List.mem_cons_self
      · exact hown e (List.mem_cons_of_mem f he)

theorem offers_rewritePress {sc : Scope} {d piston level serial : Byte} {r : List QueueEntry}
    (h : rewritePress sc d piston level serial s.link.queue = some r) :
    Offers s { s with link := { s.link with queue := r } } := by
  refine .of_queue rfl rfl rfl (fun hlaw => ?_) (fun d hown _ => ?_) fun _ hq => ?_
  · rw [State.queueLaw_iff] at hlaw ⊢
    exact hlaw.alike (alikeQueues_rewritePress h)
  · exact rewritePress_forall (p := fun b => b.shoeDivisionIs d = true) rfl hown h
  · simp [hq, rewritePress] at h

/-! ### The following flags beside an offer -/

/-- The flags that follow a cause and clear without a call (R194). -/
def Flag.follows : Flag → Bool
  | .stuck | .shoeSilent | .config => true
  | _ => false

theorem Flag.ne_txOverflow_of_follows {f : Flag} (h : f.follows = true) : f ≠ .txOverflow := by
  rintro rfl
  cases h

theorem Faults.SameCauses.of_has {a b : Faults} (count : b.stuckCount = a.stuckCount)
    (has : ∀ f : Flag, f.follows = true → b.has f = a.has f) : a.SameCauses b :=
  ⟨count, has _ rfl, has _ rfl, has _ rfl⟩

theorem evictFor_has {g : Flag} (hg : g ≠ .txOverflow) (b : Body) (s : State) :
    (evictFor b s).faults.has g = s.faults.has g := by
  unfold evictFor
  split
  · exact setFlag_has_other hg hg s
  · dsimp only
    rw [setFlag_has_other hg hg]
    split
    · exact Faults.has_congr (by simp [setNotePending]) g
    · rw [joinQueue_faults]

theorem offer_has {g : Flag} (hg : g ≠ .txOverflow) (b : Body) (s : State) :
    (offer b s).1.faults.has g = s.faults.has g := by
  unfold offer
  split
  · split
    · rfl
    · split
      · rw [joinQueue_faults]
      · exact setFlag_has_other hg hg s
  · split
    · rw [joinQueue_faults]
    · split
      · exact evictFor_has hg _ s
      · exact setFlag_has_other hg hg s

theorem headLeaves_has {g : Flag} (hg : g ≠ .txOverflow) (s : State) :
    (headLeaves s).faults.has g = s.faults.has g := by
  rcases headLeaves_cases s with ⟨-, e⟩ | ⟨h, q, -, e⟩ <;> rw [e]
  cases h.body.isNote && h.merged
  · rfl
  · exact offerNote_has hg _

end

end Sys2Proof.Machine
end

section
/-! PROOF. What it means that an event keeps every law, and the events that change one block of the state only. -/

namespace Sys2Proof.Machine

/-- The tutti and crescendo sets are empty while tutti is off and while the stage is 0, and no stop is both added and
silenced: the part of the law of R6 that holds in every node state (R129, R137). -/
abbrev State.setsLaw (s : State) : Prop :=
  (s.resolver.tutti = false → s.resolver.tuttiAdd = StopSet.empty ∧ s.resolver.tuttiSilence = StopSet.empty) ∧
    (s.resolver.stage = 0 → s.resolver.addition = StopSet.empty) ∧
    ∀ n : StopNo, (s.resolver.tuttiAdd[n] && s.resolver.tuttiSilence[n]) = false

/-- The law of the drawn image, which branches on the node state, as one fact. -/
structure State.DrawnHolds (s : State) : Prop where
  law : s.drawnLaw

/-- The law of the lamps as one fact. -/
structure State.LampsHold (s : State) : Prop where
  law : s.lampLaw

/-- The law of the following flags as one fact. -/
structure State.CausesHold (s : State) : Prop where
  law : s.faultLaw

/-- The laws that hold between the operations of one event, and the waiting commands. -/
structure KeepsCore (s t : State) : Prop where
  pending : t.pending = s.pending := by rfl
  memory : s.memoryLaw → t.memoryLaw := by exact id
  writes : s.memoryLaw → s.serviceLaw → s.writeListLaw → t.writeListLaw := by exact fun _ _ h => h
  queue : s.queueLaw → t.queueLaw := by exact id
  division : s.shoeDivisionLaw → t.shoeDivisionLaw := by exact id
  coil : s.coilLaw → t.coilLaw := by exact id
  sets : s.setsLaw → t.setsLaw := by exact id
  fault : s.queueLaw → s.CausesHold → t.CausesHold := by exact fun _ ⟨h⟩ => ⟨h⟩
  level : s.levelLaw → t.levelLaw := by exact id
  service : s.serviceLaw → t.serviceLaw := by exact id
  scanner : s.scannerLaw → t.scannerLaw := by exact id
  shoe : s.shoeLaw → t.shoeLaw := by exact id

/-- All laws: those above, and the laws of the drawn image, the speaking set and the lamps, which an event restores
only at its end. -/
structure Keeps (s t : State) : Prop extends KeepsCore s t where
  drawn : s.coilLaw → s.DrawnHolds → t.DrawnHolds := by exact fun _ ⟨h⟩ => ⟨h⟩
  speaking : s.speakingLaw → t.speakingLaw := by exact id
  lamp : s.LampsHold → t.LampsHold := by exact fun ⟨h⟩ => ⟨h⟩

section
variable {s t u : State}

theorem KeepsCore.trans (h : KeepsCore s t) (h' : KeepsCore t u) : KeepsCore s u where
  pending := h'.pending.trans h.pending
  memory hs := h'.memory (h.memory hs)
  writes hm hv hw := h'.writes (h.memory hm) (h.service hv) (h.writes hm hv hw)
  queue hs := h'.queue (h.queue hs)
  division hs := h'.division (h.division hs)
  coil hs := h'.coil (h.coil hs)
  sets hs := h'.sets (h.sets hs)
  fault hq hf := h'.fault (h.queue hq) (h.fault hq hf)
  level hs := h'.level (h.level hs)
  service hs := h'.service (h.service hs)
  scanner hs := h'.scanner (h.scanner hs)
  shoe hs := h'.shoe (h.shoe hs)

theorem Keeps.refl (s : State) : Keeps s s := {}

theorem Keeps.trans (h : Keeps s t) (h' : Keeps t u) : Keeps s u :=
  { h.toKeepsCore.trans h'.toKeepsCore with
    drawn := fun hc hd => h'.drawn (h.coil hc) (h.drawn hc hd)
    speaking := fun hs => h'.speaking (h.speaking hs)
    lamp := fun hs => h'.lamp (h.lamp hs) }

/-! ### The link and the fault set -/

/-- The fault law reads node state, sequencer, silence state, shoe unit and the following flags; in a start all
flags. -/
theorem causesHold_congr (node : t.node = s.node) (count : t.sequencer.stuckCount = s.sequencer.stuckCount)
    (silence : (t.resolver.silence = .silent ↔ s.resolver.silence = .silent) ∧
      (s.resolver.silence = .waiting → t.resolver.silence = .waiting))
    (off : t.shoe.unit = s.shoe.unit)
    (causes : s.faults.SameCauses t.faults) (flags : s.live = false → t.faults.flags = s.faults.flags)
    (h : s.CausesHold) : t.CausesHold := by
  obtain ⟨h⟩ := h
  refine ⟨?_⟩
  obtain ⟨c, st, si, co⟩ := causes
  simp only [State.faultLaw, node] at h ⊢
  split at h
  · obtain ⟨h1, h2, h3, h4⟩ := h
    refine ⟨by rw [c, h1, count], by rw [st, h2, c], ?_, by rw [co, h4, off]⟩
    rw [si, h3]
    exact Bool.eq_iff_iff.2 (by simpa using silence.1.symm)
  · obtain ⟨h1, h2, h3, h4, h5, h6⟩ := h
    exact ⟨by rw [c, h1], by rw [count, h2], by rw [st, h3], silence.2 h4, by rw [si, h5], by rw [co, h6]⟩
  · obtain ⟨h1, h2, h3, h4, h5⟩ := h
    have hl : s.live = false := by simp [State.live, *]
    exact ⟨by rw [flags hl, h1], by rw [c, h2], by rw [count, h3], silence.2 h4, by rw [off, h5]⟩
  · obtain ⟨h1, h2⟩ := h
    exact ⟨by rw [count, h1], silence.2 h2⟩
  · trivial

/-- An offer that leaves the causes of the following flags alone keeps every law. -/
theorem Offers.keeps (h : Offers s t) (causes : s.faults.SameCauses t.faults) : Keeps s t := by
  obtain ⟨frame, queue, division, count, flags⟩ := h
  generalize hl : t.link = l at frame
  generalize hf : t.faults = f at frame causes flags
  subst frame
  exact { queue := queue, division := division,
          fault := fun hq hlaw => causesHold_congr (s := s) rfl rfl ⟨.rfl, id⟩ rfl causes (flags hq) hlaw }

/-- An offer that changes no flag but TX_OVERFLOW and the like keeps every law. -/
theorem Offers.keeps_of_has (h : Offers s t) (has : ∀ f : Flag, f.follows = true → t.faults.has f = s.faults.has f) :
    Keeps s t := h.keeps (.of_has h.count has)

theorem keeps_offer {b : Body} (hl : s.live = true) (hnote : b.isNote = false)
    (hown : b.shoeDivisionIs s.straps.division = true) : Keeps s (offer b s).1 :=
  (offers_offer hl hnote hown).keeps_of_has fun _ hf => offer_has (Flag.ne_txOverflow_of_follows hf) b s

theorem keeps_offerShoe (hl : s.live = true) : Keeps s (offerShoe s) :=
  keeps_offer hl rfl (by simp [Body.shoeDivisionIs])

theorem keeps_headLeaves (s : State) : Keeps s (headLeaves s) :=
  (offers_headLeaves s).keeps_of_has fun _ hf => headLeaves_has (Flag.ne_txOverflow_of_follows hf) s

theorem keeps_noteCall (hl : s.live = true) : Keeps s (noteCall s) :=
  (offers_noteCall hl).keeps_of_has fun _ hf => noteCall_has (Flag.ne_txOverflow_of_follows hf) s

/-- A report of a flag that follows no cause (R194). -/
theorem keeps_setFlag {f : Flag} (hf : f.follows = false) (s : State) : Keeps s (setFlag f s) :=
  (offers_setFlag f s).keeps_of_has fun g hg =>
    setFlag_has_other (by rintro rfl; simp [hf] at hg) (Flag.ne_txOverflow_of_follows hg) s

theorem keeps_startAttempt (s : State) : Keeps s (startAttempt s) :=
  (offers_startAttempt s).keeps (by rw [startAttempt_faults]; exact .refl _)

theorem keeps_readRecord (i : Nat) (s : State) : Keeps s (readRecord i s) := by
  unfold readRecord
  split
  · exact keeps_setFlag rfl s
  · exact .refl s

theorem keeps_advanceSerial (s : State) : Keeps s (advanceSerial s) := {}

theorem keeps_offerWithSerial {b : Byte → Body} (hl : s.live = true) (hnote : ∀ n, (b n).isNote = false)
    (hshoe : ∀ n, (b n).shoeDivisionIs s.straps.division = true) : Keeps s (offerWithSerial b s).1 := by
  have h := keeps_offer hl (hnote s.resolver.serial) (hshoe s.resolver.serial)
  unfold offerWithSerial
  split <;> rename_i t e <;> rw [e] at h
  · exact h.trans (keeps_advanceSerial t)
  · exact h

/-- A frame taken: it leaves the line in GAP, seals an open block write, and leaves the queue of its sender; then the
node acts on it (R174 to R178). -/
theorem keeps_takeFrame {c : Instr} {act : Bool → State → State}
    (h : ∀ own t, t.live = true → Keeps t (act own t)) (s : State) : Keeps s (takeFrame c act s) := by
  have htaken : Keeps s s.frameTaken := {}
  rcases takeFrame_cases c act s with e | ⟨hl, -, -, -, e⟩ | ⟨g, hl, -, -, -, e⟩ <;> rw [e]
  · exact .refl s
  · exact htaken.trans (h _ _ hl)
  · exact (htaken.trans (keeps_headLeaves _)).trans (h _ _ (by rw [live_congr (headLeaves_node _)]; exact hl))

/-! ### Outputs -/

/-- A change of the output drivers that leaves the steady values of the lamps, and outside RUNNING the lamps. -/
theorem keeps_outputs {o : Outputs} (steady : ∀ i : Fin 16, (o.lamps[i]).steady = (s.outputs.lamps[i]).steady)
    (lamps : s.node ≠ .running → o.lamps = s.outputs.lamps) : Keeps s { s with outputs := o } where
  lamp h := by
    obtain ⟨h⟩ := h
    refine ⟨?_⟩
    simp only [State.lampLaw] at h ⊢
    split at h
    · exact fun i => (steady i).trans (h i)
    · exact ⟨(lamps (by simp [*])).trans h.1, h.2⟩
    · exact (lamps (by assumption)).trans h

theorem keeps_startShift (s : State) : Keeps s (startShift s) := by
  unfold startShift
  split
  · exact {}
  · exact .refl s

theorem keeps_blinkPiston (k : BlinkKind) (p : Piston) (hr : s.node = .running) : Keeps s (blinkPiston k p s) := by
  refine keeps_outputs (fun i => ?_) (fun h => absurd hr h)
  simp only [Fin.getElem_fin, Vector.getElem_mapFinIdx]
  split <;> rfl

/-! ### The speaking set and the lamps, restored at the end of an event -/

theorem speakingLaw_iff : s.speakingLaw ↔
    (s.live = true → s.resolver.speaking = s.resolver.speaks s.config.stops) ∧ s.setsLaw := Iff.rfl

theorem speaks_congr {r q : Resolver} (n : Nat) (hd : r.drawn = q.drawn) (ha : r.addition = q.addition)
    (ht : r.tutti = q.tutti) (hadd : r.tuttiAdd = q.tuttiAdd) (hs : r.tuttiSilence = q.tuttiSilence) :
    r.speaks n = q.speaks n := by
  simp only [Resolver.speaks, hd, ha, ht, hadd, hs]

/-- A refresh changes the speaking set and the shift, and no lamp. -/
theorem refreshSpeaking_shape (s : State) : ∃ x dirty shift, x = s.resolver.speaks s.config.stops ∧
    refreshSpeaking s = { s with
      resolver := { s.resolver with speaking := x }
      outputs := { s.outputs with dirty := dirty, shift := shift } } := by
  have hshift (u : State) : ∃ dirty shift,
      startShift u = { u with outputs := { u.outputs with dirty := dirty, shift := shift } } := by
    unfold startShift
    split
    · exact ⟨_, _, rfl⟩
    · exact ⟨u.outputs.dirty, u.outputs.shift, rfl⟩
  unfold refreshSpeaking
  dsimp only
  split
  · rename_i h
    exact ⟨_, s.outputs.dirty, s.outputs.shift, rfl, by rw [h]⟩
  · obtain ⟨dirty, shift, e⟩ := hshift { s with
      resolver := { s.resolver with speaking := s.resolver.speaks s.config.stops }
      outputs := { s.outputs with dirty := true } }
    exact ⟨_, dirty, shift, rfl, e⟩

theorem keepsCore_refreshSpeaking (s : State) : KeepsCore s (refreshSpeaking s) := by
  obtain ⟨x, dirty, shift, -, e⟩ := refreshSpeaking_shape s
  rw [e]
  exact {}

theorem drawn_refreshSpeaking (s : State) : (refreshSpeaking s).DrawnHolds ↔ s.DrawnHolds := by
  obtain ⟨x, dirty, shift, -, e⟩ := refreshSpeaking_shape s
  rw [e]
  exact ⟨fun ⟨h⟩ => ⟨h⟩, fun ⟨h⟩ => ⟨h⟩⟩

theorem lamp_refreshSpeaking (s : State) : (refreshSpeaking s).LampsHold ↔ s.LampsHold := by
  obtain ⟨x, dirty, shift, -, e⟩ := refreshSpeaking_shape s
  rw [e]
  exact ⟨fun ⟨h⟩ => ⟨h⟩, fun ⟨h⟩ => ⟨h⟩⟩

theorem speaking_refreshSpeaking (h : s.setsLaw) : (refreshSpeaking s).speakingLaw := by
  refine speakingLaw_iff.2 ⟨fun _ => ?_, (keepsCore_refreshSpeaking s).sets h⟩
  rw [refreshSpeaking_config, refreshSpeaking_resolver]
  exact speaks_congr _ rfl rfl rfl rfl rfl

theorem keeps_refreshSpeaking (s : State) : Keeps s (refreshSpeaking s) :=
  ⟨keepsCore_refreshSpeaking s, fun _ => (drawn_refreshSpeaking s).2, fun h => speaking_refreshSpeaking h.2,
    (lamp_refreshSpeaking s).2⟩

theorem keepsCore_refreshLamps (s : State) : KeepsCore s (refreshLamps s) := by
  unfold refreshLamps
  generalize s.outputs.lamps.mapFinIdx _ = lamps
  exact {}

theorem drawn_refreshLamps (s : State) : (refreshLamps s).DrawnHolds ↔ s.DrawnHolds := by
  unfold refreshLamps
  generalize s.outputs.lamps.mapFinIdx _ = lamps
  exact ⟨fun ⟨h⟩ => ⟨h⟩, fun ⟨h⟩ => ⟨h⟩⟩

theorem speaking_refreshLamps (s : State) : (refreshLamps s).speakingLaw ↔ s.speakingLaw := by
  unfold refreshLamps
  generalize s.outputs.lamps.mapFinIdx _ = lamps
  exact Iff.rfl

theorem lamp_refreshLamps (hr : s.node = .running) : (refreshLamps s).LampsHold := by
  have hsame (p : Option Piston) : (refreshLamps s).steadyValue p = s.steadyValue p := by
    unfold State.steadyValue
    rfl
  refine ⟨?_⟩
  simp only [State.lampLaw, refreshLamps_node, hr, hsame, refreshLamps_config]
  intro i
  simp only [refreshLamps, Fin.getElem_fin, Vector.getElem_mapFinIdx]

/-- An event that ends with the speaking set recomputed. -/
theorem KeepsCore.refreshSpeaking (h : KeepsCore s t) (drawn : s.coilLaw → s.DrawnHolds → t.DrawnHolds)
    (lamp : s.LampsHold → t.LampsHold) : Keeps s (refreshSpeaking t) :=
  ⟨h.trans (keepsCore_refreshSpeaking t), fun hc hd => (drawn_refreshSpeaking t).2 (drawn hc hd),
    fun hs => speaking_refreshSpeaking (h.sets hs.2), fun hs => (lamp_refreshSpeaking t).2 (lamp hs)⟩

/-- An event of a RUNNING node that ends with the steady values recomputed. -/
theorem KeepsCore.refreshLamps (h : KeepsCore s t) (drawn : s.coilLaw → s.DrawnHolds → t.DrawnHolds)
    (speaking : s.speakingLaw → t.speakingLaw) (hr : t.node = .running) : Keeps s (refreshLamps t) :=
  ⟨h.trans (keepsCore_refreshLamps t), fun hc hd => (drawn_refreshLamps t).2 (drawn hc hd),
    fun hs => (speaking_refreshLamps t).2 (speaking hs), fun _ => lamp_refreshLamps hr⟩

/-- An event of a RUNNING node that ends with speaking set and steady values recomputed. -/
theorem KeepsCore.refreshBoth (h : KeepsCore s t) (drawn : s.coilLaw → s.DrawnHolds → t.DrawnHolds)
    (hr : t.node = .running) : Keeps s (Machine.refreshLamps (Machine.refreshSpeaking t)) :=
  (h.trans (keepsCore_refreshSpeaking t)).refreshLamps (fun hc hd => (drawn_refreshSpeaking t).2 (drawn hc hd))
    (fun hs => speaking_refreshSpeaking (h.sets hs.2)) (by rw [refreshSpeaking_node, hr])

end

end Sys2Proof.Machine
end

section
/-! PROOF. The sequencer: what each operation makes of one stop's record and of the move list, and the law of the coils
over them (R56 to R80). -/

namespace Sys2Proof.Machine

/-- Changing one place changes the count by that place. -/
theorem countP_put {α : Type} {k : Nat} (p : α → Bool) (v : Vector α k) (i : Fin k) (x : α) :
    (put v i x).toList.countP p + (if p v[i] then 1 else 0) = v.toList.countP p + (if p x then 1 else 0) := by
  simp only [Vector.countP_toList, put, Vector.countP_set, Fin.getElem_fin]
  have hpos : p v[i.val] = true → 0 < v.countP p := fun h => Vector.countP_pos_iff.2 ⟨_, v.getElem_mem i.isLt, h⟩
  cases h : p v[i.val]
  · simp
  · have := hpos h
    simp
    omega

theorem put_self {α : Type} {k : Nat} (v : Vector α k) (i : Fin k) : put v i v[i] = v :=
  table_ext fun j => by
    rw [getElem_put_fin]
    split
    · subst_vars; rfl
    · rfl

/-! ### The law of the coils -/

/-- The part of the law of the coils that speaks of sequencer and configuration. -/
structure Sequencer.Wf (c : NodeConfig) (sq : Sequencer) : Prop where
  energized : sq.energized ≤ c.budget
  nodup : sq.moves.Nodup
  moves : ∀ n : StopNo, n ∈ sq.moves ↔ (sq.motions[n]).motion ≠ .atRest
  below : ∀ n ∈ sq.moves, n.val < c.stops
  pulse : ∀ n : StopNo, (sq.motions[n]).motion.pulseLeft ≤ c.pulseMs
  awaits : ∀ n : StopNo, (sq.motions[n]).motion.awaitsItsDirection = true

theorem State.coilLaw_iff {s : State} : s.coilLaw ↔
    s.sequencer.Wf s.config ∧ s.config.budget ≤ 16 ∧ (s.node ≠ .running → s.sequencer.moves = []) :=
  ⟨fun ⟨a, b, c, d, e, f, g, h⟩ => ⟨⟨a, c, d, e, f, g⟩, b, h⟩,
    fun ⟨w, b, h⟩ => ⟨w.energized, b, w.nodup, w.moves, w.below, w.pulse, w.awaits, h⟩⟩

section
variable {c : NodeConfig} {sq : Sequencer} {n : StopNo}

/-- The sequencer with another record at one stop and another move list. -/
abbrev Sequencer.withStop (sq : Sequencer) (n : StopNo) (r : MotionRecord) (moves : List StopNo) : Sequencer :=
  { sq with motions := put sq.motions n r, moves := moves }

/-- Another record at one stop, and the list with or without that stop as the record's motion asks for. -/
theorem Sequencer.Wf.withStop (h : sq.Wf c) {r : MotionRecord} {moves : List StopNo}
    (coil : r.motion.pulses = true → (sq.motions[n]).motion.pulses = true ∨ sq.energized < c.budget)
    (nodup : moves.Nodup) (others : ∀ k, k ≠ n → (k ∈ moves ↔ k ∈ sq.moves)) (own : n ∈ moves ↔ r.motion ≠ .atRest)
    (below : n ∈ moves → n.val < c.stops) (pulse : r.motion.pulseLeft ≤ c.pulseMs)
    (awaits : r.motion.awaitsItsDirection = true) : (sq.withStop n r moves).Wf c where
  energized := by
    have hcount := countP_put (fun r : MotionRecord => r.motion.pulses) sq.motions n r
    have hle := h.energized
    unfold Sequencer.energized at *
    dsimp only at hcount ⊢
    by_cases hnew : r.motion.pulses = true
    · rw [if_pos hnew] at hcount
      rcases coil hnew with hold | hroom
      · rw [if_pos hold] at hcount
        omega
      · split at hcount <;> omega
    · rw [if_neg hnew] at hcount
      split at hcount <;> omega
  nodup := nodup
  moves k := by
    by_cases hk : n = k
    · subst hk; simpa [-Fin.getElem_fin] using own
    · rw [others k (Ne.symm hk), h.moves k]
      dsimp only
      rw [getElem_put_other _ _ hk]
  below k hk := by
    by_cases hkn : k = n
    · subst hkn; exact below hk
    · exact h.below k ((others k hkn).1 hk)
  pulse k := by
    dsimp only
    rw [getElem_put_fin]
    split
    · exact pulse
    · exact h.pulse k
  awaits k := by
    dsimp only
    rw [getElem_put_fin]
    split
    · exact awaits
    · exact h.awaits k

/-- A move goes from one of its states to another: the list stays. -/
theorem Sequencer.Wf.withMotion (h : sq.Wf c) {m : Motion} (old : (sq.motions[n]).motion ≠ .atRest) (new : m ≠ .atRest)
    (coil : m.pulses = true → (sq.motions[n]).motion.pulses = true ∨ sq.energized < c.budget)
    (pulse : m.pulseLeft ≤ c.pulseMs) (awaits : m.awaitsItsDirection = true) : (sq.withMotion n m).Wf c :=
  h.withStop coil h.nodup (fun _ _ => Iff.rfl) ((h.moves n).trans ⟨fun _ => new, fun _ => old⟩) (h.below n) pulse awaits

/-- A stop comes to rest and leaves the list. -/
theorem Sequencer.Wf.comesToRest (h : sq.Wf c) (stuck : Bool) : ((sq.leaveList n).atRest n stuck).Wf c :=
  h.withStop (by simp [Motion.pulses]) (h.nodup.filter _) (fun k hk => by simp [hk, Sequencer.leaveList])
    (by simp [Sequencer.leaveList]) (by simp [Sequencer.leaveList]) (by simp [Motion.pulseLeft]) rfl

/-- A stop at rest gets its marker set or cleared. -/
theorem Sequencer.Wf.marked (h : sq.Wf c) (rest : (sq.motions[n]).motion = .atRest) (stuck : Bool) :
    (sq.atRest n stuck).Wf c :=
  h.withStop (by simp [Motion.pulses]) h.nodup (fun k _ => Iff.rfl) (by rw [h.moves n]; simp [rest, -Fin.getElem_fin]) (h.below n)
    (by simp [Motion.pulseLeft]) rfl

/-- A move of a stop below S is queued at the tail. -/
theorem Sequencer.Wf.queueMove (h : sq.Wf c) (hn : n.val < c.stops) (d : Bool) (attempt : Attempt) :
    (sq.queueMove n d attempt).Wf c := by
  refine h.withStop (r := ⟨.queued d attempt, (sq.motions[n]).stuck⟩) (by simp [Motion.pulses]) ?_
    (fun k hk => by simp [hk, Sequencer.atTail]) (by simp [Sequencer.atTail]) (fun _ => hn) (by simp [Motion.pulseLeft]) rfl
  exact List.nodup_append.2 ⟨h.nodup.filter _, by simp, by simp⟩

/-! ### A new target -/

/-- What a new target makes of the record of its stop (R59, R69 to R73). -/
def MotionRecord.newTarget (r : MotionRecord) (sense d : Bool) : MotionRecord :=
  match r.motion with
  | .atRest => if d = sense then ⟨.atRest, false⟩ else ⟨.queued d .first, r.stuck⟩
  | .queued e _ => if d = e then r else ⟨.queued d .first, r.stuck⟩
  | .pulsing e _ _ => if d = e then r else ⟨.resting e d (some d) 20, r.stuck⟩
  | .settling e _ _ => if d = e then r else ⟨.resting e d (some d) 20, r.stuck⟩
  | .resting cut e _ left => if d = e then r else ⟨.resting cut d (if d = cut then none else some d) left, r.stuck⟩

/-- The move list after a new target: only a stop at rest and off its target joins the tail (R59). -/
theorem Sequencer.newTarget_eq (sq : Sequencer) (n : StopNo) (sense d : Bool) :
    sq.newTarget n sense d = sq.withStop n ((sq.motions[n]).newTarget sense d)
      (if (sq.motions[n]).motion = .atRest ∧ d ≠ sense then sq.moves.filter (· != n) ++ [n] else sq.moves) := by
  have hsame : sq = sq.withStop n (sq.motions[n]) sq.moves := by rw [Sequencer.withStop, put_self]
  unfold Sequencer.newTarget MotionRecord.newTarget
  split <;> rename_i hm <;> split <;> rename_i hd <;> simp only [hm, hd, reduceCtorEq, false_and, true_and, if_true, if_false, ne_eq,
    not_true_eq_false, not_false_eq_true]
  · rfl
  · rfl
  · exact hsame
  · rfl
  · exact hsame
  · rfl
  · exact hsame
  · rfl
  · exact hsame
  · rfl

/-- A stop below S takes a new target. -/
theorem Sequencer.Wf.newTarget (h : sq.Wf c) (hn : n.val < c.stops) (sense d : Bool) : (sq.newTarget n sense d).Wf c := by
  have hcut (e : Bool) : (Motion.resting e d (some d) 20).awaitsItsDirection = true ∨ d = e := by
    by_cases hde : d = e <;> simp [Motion.awaitsItsDirection, hde]
  unfold Sequencer.newTarget
  split <;> rename_i hm <;> split
  · exact h.marked hm false
  · exact h.queueMove hn d .first
  · exact h
  · exact h.withMotion (by simp [hm, -Fin.getElem_fin]) (by simp) (by simp [Motion.pulses]) (by simp [Motion.pulseLeft]) rfl
  · exact h
  · exact h.withMotion (by simp [hm, -Fin.getElem_fin]) (by simp) (by simp [Motion.pulses]) (by simp [Motion.pulseLeft])
      ((hcut _).resolve_right ‹_›)
  · exact h
  · exact h.withMotion (by simp [hm, -Fin.getElem_fin]) (by simp) (by simp [Motion.pulses]) (by simp [Motion.pulseLeft])
      ((hcut _).resolve_right ‹_›)
  · exact h
  · exact h.withMotion (by simp [hm, -Fin.getElem_fin]) (by simp) (by simp [Motion.pulses]) (by simp [Motion.pulseLeft])
      (by simp [Motion.awaitsItsDirection])

/-! ### The ends of a pulse, a settle and a rest -/

theorem Sequencer.Wf.pulseEnd (h : sq.Wf c) {d : Bool} {a : Attempt} {left : Nat}
    (hm : (sq.motions[n]).motion = .pulsing d a left) (settleMs : Nat) : (sq.pulseEnd n d a settleMs).Wf c :=
  h.withMotion (by simp [hm, -Fin.getElem_fin]) (by simp) (by simp [Motion.pulses]) (by simp [Motion.pulseLeft]) rfl

/-- A stop with a move is below S. -/
theorem Sequencer.Wf.below_of_moving (h : sq.Wf c) (hm : (sq.motions[n]).motion ≠ .atRest) : n.val < c.stops :=
  h.below n ((h.moves n).2 hm)

theorem Sequencer.Wf.settleCheck (h : sq.Wf c) (hm : (sq.motions[n]).motion ≠ .atRest) (sense d : Bool) (a : Attempt) :
    (sq.settleCheck n sense d a).Wf c := by
  have hn := h.below_of_moving hm
  unfold Sequencer.settleCheck
  split
  · exact h.comesToRest false
  · cases a
    · exact h.queueMove hn d .second
    · exact h.comesToRest true

theorem Sequencer.Wf.restEnd (h : sq.Wf c) (hm : (sq.motions[n]).motion ≠ .atRest) (sense d : Bool)
    (awaiting : Option Bool) : (sq.restEnd n sense d awaiting).Wf c := by
  have hn := h.below_of_moving hm
  cases awaiting with
  | some e => exact h.queueMove hn e .first
  | none =>
    unfold Sequencer.restEnd
    dsimp only
    split
    · exact h.comesToRest false
    · exact h.queueMove hn d .first

/-- A hand move (R23, R24, R75). -/
theorem Sequencer.Wf.handMove (h : sq.Wf c) {sq' : Sequencer} (hand : sq.handMove n = some sq') : sq'.Wf c := by
  unfold Sequencer.handMove at hand
  split at hand
  · obtain rfl := Option.some.inj hand
    exact h.marked ‹_› false
  · obtain rfl := Option.some.inj hand
    exact h.comesToRest false
  · cases hand

theorem Sequencer.Wf.startMoves (h : sq.Wf c) (l : List StopNo) : (startMoves c.budget c.pulseMs l sq).Wf c :=
  startMoves_induct c.budget c.pulseMs
    (fun _ _ _ _ hsq hm hb => hsq.withMotion (by simp [hm, -Fin.getElem_fin]) (by simp) (fun _ => .inr hb) le_rfl rfl) l h

/-- Nothing moves: every stop at rest and the list empty. -/
theorem Sequencer.wf_of_rest (moves : sq.moves = []) (rest : ∀ n : StopNo, (sq.motions[n]).motion = .atRest) : sq.Wf c := by
  refine ⟨?_, by simp [moves], by simp [moves, rest, -Fin.getElem_fin], by simp [moves],
    by simp [rest, Motion.pulseLeft, -Fin.getElem_fin], by simp [rest, Motion.awaitsItsDirection, -Fin.getElem_fin]⟩
  have hnone : sq.energized = 0 := by
    unfold Sequencer.energized
    rw [List.countP_eq_zero]
    intro r hr
    obtain ⟨i, hi, rfl⟩ := List.mem_iff_getElem.1 hr
    have := rest ⟨i, by simpa using hi⟩
    simp_all [Motion.pulses]
  omega

theorem Sequencer.cut_motion (sq : Sequencer) (n : StopNo) : (sq.cut.motions[n]).motion = .atRest := by
  simp only [Sequencer.cut, Fin.getElem_fin, Vector.getElem_map, MotionRecord.cut]
  split
  · rename_i h
    revert h
    cases (sq.motions[n.val]).motion <;> simp [Motion.rests]
  · rfl

theorem Sequencer.wf_cut (sq : Sequencer) (hold : Option Nat) : Sequencer.Wf c { sq.cut with cutHold := hold } :=
  wf_of_rest rfl sq.cut_motion

/-- With an empty list every stop is at rest. -/
theorem Sequencer.Wf.rests (h : sq.Wf c) (hmoves : sq.moves = []) (n : StopNo) : (sq.motions[n]).motion = .atRest := by
  by_contra hm
  simpa [hmoves] using (h.moves n).2 hm

end

/-! ### A pass -/

/-- Whether a pass hands a stop to the sequencer (R10, R59). -/
def State.handsOver (s : State) (target : StopSet) (n : StopNo) : Bool :=
  s.serves n && target[n] != s.resolver.drawn[n]

section
variable (s : State) (target : StopSet)

theorem passTargets_eq (sq : Sequencer) :
    passTargets s target sq = (List.finRange 64).foldl (fun sq n =>
      if s.handsOver target n then sq.newTarget n (s.scanner.stops[n]).value target[n] else sq) sq := by
  simp only [passTargets, State.handsOver, senses_getElem]
  rfl

/-- What a part of a pass makes of one stop's record: a new target where the stop is handed over, once. -/
theorem foldTargets_motion {l : List StopNo} (hl : l.Nodup) (sq : Sequencer) (n : StopNo) :
    (l.foldl (fun sq n =>
      if s.handsOver target n then sq.newTarget n (s.scanner.stops[n]).value target[n] else sq) sq).motions[n] =
      if n ∈ l ∧ s.handsOver target n = true then (sq.motions[n]).newTarget (s.scanner.stops[n]).value target[n]
      else sq.motions[n] := by
  induction l generalizing sq with
  | nil => simp
  | cons k l ih =>
    obtain ⟨hk, hl⟩ := List.nodup_cons.1 hl
    rw [List.foldl_cons, ih hl]
    by_cases hn : k = n
    · subst hn
      cases s.handsOver target k <;> simp [hk, Sequencer.newTarget_eq, -Fin.getElem_fin]
    · have hother : (if s.handsOver target k = true then sq.newTarget k (s.scanner.stops[k]).value target[k] else sq).motions[n]
          = sq.motions[n] := by
        split
        · rw [Sequencer.newTarget_eq]
          exact getElem_put_other _ _ hn
        · rfl
      rw [hother]
      simp [Ne.symm hn]

/-- What a pass makes of one stop's record. -/
theorem passTargets_motion (sq : Sequencer) (n : StopNo) :
    (passTargets s target sq).motions[n] =
      if s.handsOver target n then (sq.motions[n]).newTarget (s.scanner.stops[n]).value target[n]
      else sq.motions[n] := by
  rw [passTargets_eq, foldTargets_motion s target (List.nodup_finRange 64)]
  simp

theorem passTargets_waits (sq : Sequencer) :
    (passTargets s target sq).cutHold = sq.cutHold ∧ (passTargets s target sq).startWait = sq.startWait :=
  passTargets_induct (P := fun r => r.cutHold = sq.cutHold ∧ r.startWait = sq.startWait) s target
    (fun r n h _ => by rw [Sequencer.newTarget_eq]; exact h) ⟨rfl, rfl⟩

theorem Sequencer.Wf.passTargets {sq : Sequencer} (h : sq.Wf s.config) : (passTargets s target sq).Wf s.config :=
  passTargets_induct s target (fun _ _ hsq hn => hsq.newTarget (by simpa [State.serves] using hn) _ _) h

end

/-! ### The image of a stop -/

/-- What the drawn image is to be at a stop that exists, by its record and its debounced sense (R1). -/
def MotionRecord.image (r : MotionRecord) (sense : Bool) : Bool :=
  match r.motion.direction with
  | some d => d
  | none => sense != r.stuck

theorem State.imageOf_eq (s : State) (n : StopNo) :
    s.imageOf n = (decide (n.val < s.config.stops) && (s.sequencer.motions[n]).image (s.scanner.stops[n]).value) := rfl

/-- A new target becomes the image (R1, R10). -/
theorem MotionRecord.image_newTarget (r : MotionRecord) (sense d : Bool) : (r.newTarget sense d).image sense = d := by
  unfold MotionRecord.newTarget
  split <;> rename_i hm <;> split <;> simp_all [MotionRecord.image, Motion.direction]

/-- A start rule leaves the image, the marker and the direction of every stop. -/
theorem startMoves_motion (budget pulseMs : Nat) (l : List StopNo) (sq : Sequencer) (n : StopNo) :
    ((startMoves budget pulseMs l sq).motions[n]).stuck = (sq.motions[n]).stuck ∧
      ((startMoves budget pulseMs l sq).motions[n]).motion.direction = (sq.motions[n]).motion.direction :=
  startMoves_induct (P := fun r => (r.motions[n]).stuck = (sq.motions[n]).stuck ∧
      (r.motions[n]).motion.direction = (sq.motions[n]).motion.direction) budget pulseMs
    (fun r k d a h hm _ => by
      simp only [Sequencer.withMotion, getElem_put_fin]
      split
      · subst_vars
        exact ⟨h.1, by rw [← h.2, hm]; rfl⟩
      · exact h) l ⟨rfl, rfl⟩

theorem stuckCount_congr {a b : Sequencer} (h : ∀ n : StopNo, (a.motions[n]).stuck = (b.motions[n]).stuck) :
    a.stuckCount = b.stuckCount := by
  unfold Sequencer.stuckCount
  have hlist : a.motions.toList.map MotionRecord.stuck = b.motions.toList.map MotionRecord.stuck := by
    apply List.ext_getElem (by simp)
    intro i hi _
    simpa using h ⟨i, by simpa using hi⟩
  have := congrArg (List.countP id) hlist
  simpa [List.countP_map, Function.comp_def] using this

theorem stuckCount_startMoves (budget pulseMs : Nat) (l : List StopNo) (sq : Sequencer) :
    (startMoves budget pulseMs l sq).stuckCount = sq.stuckCount :=
  stuckCount_congr fun n => (startMoves_motion budget pulseMs l sq n).1

/-- No stop is stuck where the count is 0, and the other way round. -/
theorem stuckCount_eq_zero {sq : Sequencer} : sq.stuckCount = 0 ↔ ∀ n : StopNo, (sq.motions[n]).stuck = false := by
  unfold Sequencer.stuckCount
  rw [List.countP_eq_zero]
  constructor
  · intro h n
    simpa using h _ (by simp [Vector.mem_toList_iff, Vector.getElem_mem] : sq.motions[n] ∈ sq.motions.toList)
  · intro h r hr
    obtain ⟨i, hi, rfl⟩ := List.mem_iff_getElem.1 hr
    simpa using h ⟨i, by simpa using hi⟩

end Sys2Proof.Machine
end

section
/-! PROOF. The events of sequencer and resolver keep the laws: reports, the start rule, passes, departure checks, hand
moves and the cut of a supply fall. -/

namespace Sys2Proof.Machine

section
variable {s t : State}

/-! ### The drawn image against the moves -/

/-- Where the image of no stop changes, the law of the drawn image stays. -/
theorem drawnHolds_congr (node : t.node = s.node) (stops : t.config.stops = s.config.stops)
    (drawn : t.resolver.drawn = s.resolver.drawn)
    (values : ∀ n : StopNo, (t.scanner.stops[n]).value = (s.scanner.stops[n]).value)
    (stuck : s.node ≠ .running → ∀ n : StopNo, (t.sequencer.motions[n]).stuck = (s.sequencer.motions[n]).stuck)
    (image : s.node = .running → ∀ n : StopNo, (t.sequencer.motions[n]).image (s.scanner.stops[n]).value =
      (s.sequencer.motions[n]).image (s.scanner.stops[n]).value) (h : s.DrawnHolds) : t.DrawnHolds := by
  obtain ⟨h⟩ := h
  refine ⟨?_⟩
  simp only [State.drawnLaw, node] at h ⊢
  split at h
  · rename_i hr
    intro n
    rw [drawn, h n, State.imageOf_eq, State.imageOf_eq, values, image hr, stops]
  · intro n
    rw [drawn, h n, values, stops]
  · intro n
    rw [stuck (by simp [*]), h n]
  · trivial

/-- The image of a stop is what its marker, its direction and its debounced sense give. -/
theorem MotionRecord.image_congr {a b : MotionRecord} (hs : b.stuck = a.stuck)
    (hd : b.motion.direction = a.motion.direction) (sense : Bool) : b.image sense = a.image sense := by
  simp only [MotionRecord.image, hd, hs]

/-! ### The start rule and the waits before it -/

/-- A change of the sequencer that leaves markers, directions and the list keeps every law with the coils' law. -/
theorem keeps_sequencer {sq : Sequencer} (coil : s.coilLaw → sq.Wf s.config)
    (moves : s.node ≠ .running → sq.moves = s.sequencer.moves)
    (stuck : ∀ n : StopNo, (sq.motions[n]).stuck = (s.sequencer.motions[n]).stuck)
    (direction : ∀ n : StopNo, (sq.motions[n]).motion.direction = (s.sequencer.motions[n]).motion.direction) :
    Keeps s { s with sequencer := sq } where
  coil h := by
    have h' := State.coilLaw_iff.1 h
    exact State.coilLaw_iff.2 ⟨coil h, h'.2.1, fun hr => (moves hr).trans (h'.2.2 hr)⟩
  fault _ h := causesHold_congr (s := s) rfl (stuckCount_congr stuck) ⟨.rfl, id⟩ rfl (.refl _) (fun _ => rfl) h
  drawn _ h := drawnHolds_congr (s := s) rfl rfl rfl (fun _ => rfl) (fun _ => stuck)
    (fun _ n => MotionRecord.image_congr (stuck n) (direction n) _) h

theorem keeps_startRule (s : State) : Keeps s (startRule s) := by
  rcases startRule_cases s with ⟨-, e⟩ | ⟨h, e⟩ <;> rw [e]
  · exact .refl s
  · have hr : s.node = .running := node_of_runs (by simp_all [State.mayStartMoves])
    exact keeps_sequencer (fun hc => (State.coilLaw_iff.1 hc).1.startMoves _) (fun h => absurd hr h)
      (fun n => (startMoves_motion _ _ _ _ n).1) (fun n => (startMoves_motion _ _ _ _ n).2)

/-- The waits of the cut hold and of the start change no move. -/
theorem keeps_waits (s : State) (hold wait : Option Nat) :
    Keeps s { s with sequencer := { s.sequencer with cutHold := hold, startWait := wait } } :=
  keeps_sequencer (fun hc => let ⟨a, b, c, d, e, f⟩ := (State.coilLaw_iff.1 hc).1; ⟨a, b, c, d, e, f⟩)
    (fun _ => rfl) (fun _ => rfl) (fun _ => rfl)

/-- The pulse of a stop ends and it settles in the same direction (R63). -/
theorem keeps_pulseEnd {n : StopNo} {d : Bool} {a : Attempt} {left : Nat}
    (hm : (s.sequencer.motions[n]).motion = .pulsing d a left) :
    Keeps s { s with sequencer := s.sequencer.pulseEnd n d a s.config.settleMs } := by
  refine keeps_sequencer (fun hc => (State.coilLaw_iff.1 hc).1.pulseEnd hm _) (fun _ => rfl) (fun k => ?_) fun k => ?_ <;>
    simp only [Sequencer.pulseEnd, Sequencer.withMotion, getElem_put_fin] <;> split
  · subst_vars; rfl
  · rfl
  · subst_vars; rw [hm]; rfl
  · rfl

/-! ### A changed sequencer, reported -/

/-- The report of a RUNNING node's stuck count makes count and flag follow (R78, R194, R195). -/
theorem causesHold_withSequencer (sq : Sequencer) (hr : s.node = .running) (h : s.CausesHold) :
    (withSequencer sq s).CausesHold := by
  obtain ⟨h⟩ := h
  simp only [State.faultLaw, hr] at h
  obtain ⟨hcount, hstuck, hsilent, hconfig⟩ := h
  have hl := live_of_running hr
  refine ⟨?_⟩
  simp only [State.faultLaw, withSequencer_node, hr, withSequencer_sequencer, withSequencer_resolver, withSequencer_shoe]
  obtain ⟨c, same, rises, falls⟩ := stuckFollows_withSequencer sq hl
  rw [withSequencer_sequencer] at c same rises falls
  have hother (f : Flag) (hf : f = .shoeSilent ∨ f = .config) :
      (withSequencer sq s).faults.has f = s.faults.has f := by
    have hne : f ≠ .stuck ∧ f ≠ .txOverflow := by rcases hf with rfl | rfl <;> exact ⟨nofun, nofun⟩
    rcases lt_trichotomy sq.stuckCount s.faults.stuckCount with hlt | heq | hgt
    · rw [withSequencer_of_count_falls hlt]
      split
      · exact (Faults.has_withoutFlag s.faults .stuck f).trans (by simp [hne.1])
      · rfl
    · rw [withSequencer_of_count_same heq]
    · rw [withSequencer_of_count_rises hgt]
      dsimp only
      split
      · rw [noteCall_has hne.2]; rfl
      · rw [setFlag_has_other hne.1 hne.2]; rfl
  refine ⟨c, ?_, by rw [hother _ (.inl rfl), hsilent], by rw [hother _ (.inr rfl), hconfig]⟩
  rw [c]
  rcases lt_trichotomy sq.stuckCount s.faults.stuckCount with hlt | heq | hgt
  · rw [(falls hlt).2]
    by_cases h0 : sq.stuckCount = 0
    · simp only [h0]
      exact (Faults.has_withoutFlag s.faults .stuck .stuck).trans (by simp)
    · simp only [if_neg h0]
      exact hstuck.trans (decide_eq_decide.2 (by omega))
  · rw [(same heq).1, hstuck, heq]
  · rw [(rises hgt).1]
    exact (decide_eq_true (by omega)).symm

/-- A RUNNING node's sequencer changes lawfully and reports. -/
theorem keepsCore_withSequencer {sq : Sequencer} (hr : s.node = .running) (coil : s.coilLaw → sq.Wf s.config) :
    KeepsCore s (withSequencer sq s) := by
  have hl := live_of_running hr
  have hcauses := causesHold_withSequencer sq hr
  have hoffers : sq.stuckCount ≠ s.faults.stuckCount →
      Offers { s with sequencer := sq, faults := { s.faults with stuckCount := sq.stuckCount } } (withSequencer sq s) := by
    intro hne
    have h := offers_reportStuckCount (s := { s with sequencer := sq }) sq.stuckCount hl
    simpa only [withSequencer, reportStuck, if_neg hne] using h
  have hseq : (withSequencer sq s).coilLaw ↔ { s with sequencer := sq }.coilLaw := by
    rw [withSequencer_frame, withSequencer_sequencer]
  refine {
    pending := withSequencer_pending sq s
    memory := fun h => by rw [State.memoryLaw, withSequencer_store]; exact h
    writes := fun _ _ h => by rw [State.writeListLaw, withSequencer_store]; exact h
    queue := fun h => ?_, division := fun h => ?_
    coil := fun hc => hseq.2 ?_
    sets := fun h => by rw [State.setsLaw, withSequencer_resolver]; exact h
    fault := fun _ => hcauses
    level := fun h => by rw [State.levelLaw, withSequencer_resolver, withSequencer_config]; exact h
    service := fun h => by rw [State.serviceLaw, withSequencer_service]; exact h
    scanner := fun h => by rw [State.scannerLaw, withSequencer_scanner]; exact h
    shoe := fun h => by rw [State.shoeLaw, withSequencer_shoe, withSequencer_config]; exact h }
  · by_cases hne : sq.stuckCount = s.faults.stuckCount
    · rw [withSequencer_of_count_same hne]; exact h
    · exact (hoffers hne).queue h
  · by_cases hne : sq.stuckCount = s.faults.stuckCount
    · rw [withSequencer_of_count_same hne]; exact h
    · exact (hoffers hne).division h
  · exact State.coilLaw_iff.2 ⟨coil hc, (State.coilLaw_iff.1 hc).2.1, fun h => absurd hr h⟩

/-- A RUNNING node's sequencer changes lawfully, with the image of every stop kept, and reports. -/
theorem keeps_withSequencer {sq : Sequencer} (hr : s.node = .running) (coil : s.coilLaw → sq.Wf s.config)
    (image : s.coilLaw → ∀ n : StopNo, (sq.motions[n]).image (s.scanner.stops[n]).value =
      (s.sequencer.motions[n]).image (s.scanner.stops[n]).value) : Keeps s (withSequencer sq s) := by
  refine ⟨keepsCore_withSequencer hr coil, fun hc => ?_, fun h => ?_, fun ⟨h⟩ => ⟨?_⟩⟩
  · exact drawnHolds_congr (withSequencer_node _ _) (by rw [withSequencer_config]) (by rw [withSequencer_resolver])
      (fun n => by rw [withSequencer_scanner]) (fun h => absurd hr h)
      (fun _ n => by rw [withSequencer_sequencer]; exact image hc n)
  · rw [speakingLaw_iff, State.live, withSequencer_node, State.setsLaw, withSequencer_resolver, withSequencer_config]
    exact h
  · rw [withSequencer_frame]
    exact h

/-- Changing one stop keeps the images where it keeps that stop's. -/
theorem image_put {v : Stops MotionRecord} {n : StopNo} {r : MotionRecord} {sense : StopNo → Bool}
    (h : r.image (sense n) = (v[n]).image (sense n)) (k : StopNo) :
    ((put v n r)[k]).image (sense k) = (v[k]).image (sense k) := by
  rw [getElem_put_fin]
  split
  · subst_vars; exact h
  · rfl

/-- The settle check leaves the image: the stop got there, or its move goes on, or it is marked STUCK (R64 to R66). -/
theorem keeps_settleCheck {n : StopNo} {d : Bool} {a : Attempt} {left : Nat} (hr : s.node = .running)
    (hm : (s.sequencer.motions[n]).motion = .settling d a left) :
    Keeps s (withSequencer (s.sequencer.settleCheck n (s.scanner.stops[n]).value d a) s) := by
  have hold : (s.sequencer.motions[n]).image (s.scanner.stops[n]).value = d := by
    simp [MotionRecord.image, hm, Motion.direction, -Fin.getElem_fin]
  refine keeps_withSequencer hr (fun hc => (State.coilLaw_iff.1 hc).1.settleCheck (by rw [hm]; nofun) _ _ _) fun _ => ?_
  by_cases hd : (s.scanner.stops[n]).value = d
  · rw [Sequencer.settleCheck_of_reached _ _ hd, Sequencer.moveDone_eq]
    exact image_put (sense := fun k => (s.scanner.stops[k]).value)
      (by rw [hold]; simp [MotionRecord.image, Motion.direction, hd, -Fin.getElem_fin])
  · cases a
    · rw [Sequencer.settleCheck_of_first _ _ hd, Sequencer.queueMove_eq]
      exact image_put (sense := fun k => (s.scanner.stops[k]).value) (by rw [hold]; rfl)
    · rw [Sequencer.settleCheck_of_second _ _ hd]
      refine image_put (sense := fun k => (s.scanner.stops[k]).value) ?_
      rw [hold]
      cases d <;> simp_all [MotionRecord.image, Motion.direction, -Fin.getElem_fin]

/-- The end of a rest leaves the image: what it queues is the direction of the rest (R68). -/
theorem keeps_restEnd {n : StopNo} {cut d : Bool} {w : Option Bool} {left : Nat} (hr : s.node = .running)
    (hm : (s.sequencer.motions[n]).motion = .resting cut d w left) :
    Keeps s (withSequencer (s.sequencer.restEnd n (s.scanner.stops[n]).value d w) s) := by
  have hold : (s.sequencer.motions[n]).image (s.scanner.stops[n]).value = d := by
    simp [MotionRecord.image, hm, Motion.direction, -Fin.getElem_fin]
  refine keeps_withSequencer hr (fun hc => (State.coilLaw_iff.1 hc).1.restEnd (by rw [hm]; nofun) _ _ _) fun hc => ?_
  cases w with
  | some e =>
    have hawaits := (State.coilLaw_iff.1 hc).1.awaits n
    rw [hm] at hawaits
    have he : e = d := by
      by_cases hcut : d = cut <;> simp_all [Motion.awaitsItsDirection]
    rw [Sequencer.restEnd_of_awaiting, he, Sequencer.queueMove_eq]
    exact image_put (sense := fun k => (s.scanner.stops[k]).value) (by rw [hold]; rfl)
  | none =>
    by_cases hd : (s.scanner.stops[n]).value = d
    · rw [Sequencer.restEnd_of_reached _ _ hd, Sequencer.moveDone_eq]
      exact image_put (sense := fun k => (s.scanner.stops[k]).value)
        (by rw [hold]; simp [MotionRecord.image, Motion.direction, hd, -Fin.getElem_fin])
    · rw [Sequencer.restEnd_of_missed _ _ hd, Sequencer.queueMove_eq]
      exact image_put (sense := fun k => (s.scanner.stops[k]).value) (by rw [hold]; rfl)

/-! ### A pass -/

theorem keepsCore_drawn (d : StopSet) (s : State) : KeepsCore s { s with resolver := { s.resolver with drawn := d } } := {}

/-- A pass of a RUNNING node (R10). -/
theorem keepsCore_applyTargets (g : StopSet) (hr : s.node = .running) : KeepsCore s (applyTargets g s) := by
  unfold applyTargets
  generalize (table fun n => if s.serves n = true then g[n] else s.resolver.drawn[n]) = d
  exact (keepsCore_drawn d s).trans (keepsCore_withSequencer (s := { s with resolver := { s.resolver with drawn := d } })
    hr fun hc => (State.coilLaw_iff.1 hc).1.passTargets s g)

/-- A pass makes drawn image and moves agree at every stop (R1, R10). -/
theorem drawn_applyTargets (g : StopSet) (hr : s.node = .running) (h : s.DrawnHolds) : (applyTargets g s).DrawnHolds := by
  obtain ⟨h⟩ := h
  refine ⟨?_⟩
  simp only [State.drawnLaw, applyTargets_node, hr] at h ⊢
  intro n
  have hn := h n
  rw [State.imageOf_eq] at hn
  rw [State.imageOf_eq, applyTargets_resolver, applyTargets_sequencer, applyTargets_config, applyTargets_scanner,
    passTargets_motion, getElem_table_fin]
  by_cases hs : n.val < s.config.stops
  · have hserves : s.serves n = true := by simpa [State.serves] using hs
    simp only [hs, decide_true, Bool.true_and, hserves, if_true, State.handsOver] at hn ⊢
    by_cases hg : g[n] = s.resolver.drawn[n]
    · rw [if_neg (by simp [hg, -Fin.getElem_fin]), hg, hn]
    · rw [if_pos (by simpa [-Fin.getElem_fin] using hg), MotionRecord.image_newTarget]
  · have hserves : s.serves n = false := by simpa [State.serves] using hs
    simp only [hs, decide_false, Bool.false_and, hserves] at hn ⊢
    exact hn

/-! ### The departure check -/

/-- Whether a record, given by its piston and its dark mark, lights the piston of a number (R85). -/
def lights (k : Nat) : Option (Nat × Bool) → Bool
  | some (piston, dark) => piston == k && !dark
  | none => false

/-- The piston and the dark mark of a reference. -/
abbrev Reference.mark (r : Reference) : Nat × Bool := (r.piston, r.dark)

/-- The piston and the dark mark of a lamp reference. -/
abbrev LampReference.mark (r : LampReference) : Nat × Bool := (r.piston, r.dark)

/-- The steady value reads piston and dark mark of the records, and nothing else of the state but the division. -/
theorem State.steadyValue_eq (s : State) (p : Option Piston) : s.steadyValue p =
    match p with
    | none => false
    | some (.general g) => lights g (s.resolver.general.map Reference.mark)
    | some (.divisional d k) =>
      if d = s.straps.division then lights k (s.resolver.divisional.map Reference.mark)
      else lights k ((s.resolver.lampRefs[Division.place d]).map LampReference.mark) := by
  unfold State.steadyValue
  rcases p with _ | ⟨g⟩ | ⟨d, k⟩
  · rfl
  · dsimp only
    cases s.resolver.general <;> rfl
  · dsimp only
    split
    · cases s.resolver.divisional <;> rfl
    · cases s.resolver.lampRefs[Division.place d] <;> rfl

/-- The lamps show piston and dark mark of the records; not whether a reference has departed (R85). -/
theorem lampsHold_congr (node : t.node = s.node) (lamps : t.outputs.lamps = s.outputs.lamps)
    (config : t.config = s.config) (straps : t.straps = s.straps)
    (general : t.resolver.general.map Reference.mark = s.resolver.general.map Reference.mark)
    (divisional : t.resolver.divisional.map Reference.mark = s.resolver.divisional.map Reference.mark)
    (lampRefs : t.resolver.lampRefs = s.resolver.lampRefs) (h : s.LampsHold) : t.LampsHold := by
  have hvalue (p : Option Piston) : t.steadyValue p = s.steadyValue p := by
    simp only [State.steadyValue_eq, general, divisional, lampRefs, straps]
  obtain ⟨h⟩ := h
  refine ⟨?_⟩
  simp only [State.lampLaw, hvalue, node, lamps, config] at h ⊢
  split at h
  · exact h
  · obtain ⟨h1, h2, h3, h4⟩ := h
    refine ⟨h1, ?_, ?_, lampRefs.trans h4⟩
    · simpa [h2] using general
    · simpa [h3] using divisional
  · exact h

/-- A departed flag is read by no law. -/
theorem keeps_departGeneral {r : Reference} (h : s.resolver.general = some r) :
    Keeps s { s with resolver := { s.resolver with general := some { r with departed := true } } } where
  lamp := lampsHold_congr (s := s) rfl rfl rfl rfl (by simp [h]) rfl rfl

theorem keeps_departDivisional {r : Reference} (h : s.resolver.divisional = some r) :
    Keeps s { s with resolver := { s.resolver with divisional := some { r with departed := true } } } where
  lamp := lampsHold_congr (s := s) rfl rfl rfl rfl rfl (by simp [h]) rfl

theorem keeps_checkGeneral (hl : s.live = true) : Keeps s (checkGeneral s) := by
  unfold checkGeneral
  split
  · exact .refl s
  · rename_i r hr
    split
    · have h := keeps_offer (b := .deviate .general r.tag) hl rfl rfl
      have hres := offer_fst_resolver (.deviate .general r.tag) s
      split <;> rename_i t e <;> rw [e] at h hres
      · exact h.trans (keeps_departGeneral (by simp only at hres; rw [hres, hr]))
      · exact h
    · exact .refl s

theorem keeps_checkDivisional (hl : s.live = true) : Keeps s (checkDivisional s) := by
  unfold checkDivisional
  split
  · exact .refl s
  · rename_i r hr
    split
    · have h := keeps_offer (b := .deviate .divisional r.tag) hl rfl rfl
      have hres := offer_fst_resolver (.deviate .divisional r.tag) s
      split <;> rename_i t e <;> rw [e] at h hres
      · exact h.trans (keeps_departDivisional (by simp only at hres; rw [hres, hr]))
      · exact h
    · exact .refl s

end

end Sys2Proof.Machine
end

section
/-! PROOF. The events of the contacts keep the laws: raw contacts, presses and releases, sense changes of stops; and
so does the cut of a supply fall. -/

namespace Sys2Proof.Machine

section
variable {s t : State}

/-! ### Inputs -/

theorem Scanner.input_withInput (sc : Scanner) (c k : Contact) (d : Debounce) :
    (sc.withInput c d).input k = if c = k then d else sc.input k := by
  cases c <;> cases k <;>
    simp only [Scanner.withInput, Scanner.input, getElem_put_fin, Contact.stop.injEq, Contact.piston.injEq,
      Contact.aux.injEq, reduceCtorEq, if_false]

theorem State.scannerLaw_iff : s.scannerLaw ↔ ∀ c, (s.scanner.input c).lawful := by
  constructor
  · rintro ⟨h1, h2, h3⟩ (n | i | j)
    · exact h1 n
    · exact h2 i
    · exact h3 j
  · intro h
    exact ⟨fun n => h (.stop n), fun i => h (.piston i), fun j => h (.aux j)⟩

theorem Debounce.lawful_expire (d : Debounce) : d.expire.lawful := by simp [Debounce.lawful, Debounce.expire]

theorem Debounce.lawful_started (d : Debounce) : d.started.lawful := by simp [Debounce.lawful, Debounce.started]

theorem Debounce.lawful_rawChange {d : Debounce} (h : d.lawful) (ms : Nat) (closed : Bool) :
    (d.rawChange ms closed).lawful := by
  unfold Debounce.rawChange
  split
  · exact h
  · dsimp only [Debounce.lawful]
    split <;> simp_all

/-- One input takes another lawful value. -/
theorem scannerLaw_withInput {c : Contact} {d : Debounce} (hd : s.scannerLaw → d.lawful) (h : s.scannerLaw) :
    State.scannerLaw { s with scanner := s.scanner.withInput c d } := by
  rw [State.scannerLaw_iff] at h ⊢
  intro k
  dsimp only
  rw [Scanner.input_withInput]
  split
  · exact hd (State.scannerLaw_iff.2 h)
  · exact h k

theorem keepsCore_debounced (c : Contact) (s : State) : KeepsCore s (s.debounced c) where
  scanner := scannerLaw_withInput fun _ => Debounce.lawful_expire _

/-- An input takes another lawful value; a stop's debounced sense stays but in a node without its supply. -/
theorem keeps_withInput {c : Contact} {d : Debounce} (hd : s.scannerLaw → d.lawful)
    (value : s.node ≠ .unpowered → ∀ n, c = .stop n → d.value = (s.scanner.stops[n]).value) :
    Keeps s { s with scanner := s.scanner.withInput c d } where
  scanner := scannerLaw_withInput hd
  drawn _ h := by
    by_cases hp : s.node = .unpowered
    · exact ⟨by simp only [State.drawnLaw, hp]⟩
    · refine drawnHolds_congr (s := s) rfl rfl rfl (fun n => ?_) (fun _ _ => rfl) (fun _ _ => rfl) h
      have hin := s.scanner.input_withInput c (.stop n) d
      rw [← Scanner.input, hin]
      split
      · exact value hp n ‹_›
      · rfl

theorem keeps_debounced {c : Contact} (hc : c.hasLatch = true) (s : State) : Keeps s (s.debounced c) :=
  keeps_withInput (fun _ => Debounce.lawful_expire _) fun _ n h => by subst h; cases hc

theorem keeps_contactChange (c : Contact) (closed : Bool) (s : State) :
    ∃ t, exec (.contactChange c closed) s = .next t ∧ Keeps s t := by
  refine ⟨_, rfl, keeps_withInput (fun h => ?_) fun hp n hn => ?_⟩
  · split
    · exact Debounce.lawful_rawChange (State.scannerLaw_iff.1 h c) _ _
    · exact Debounce.lawful_started _
  · subst hn
    have hpow : s.powered = true := by simpa [State.powered] using hp
    rw [if_pos hpow]
    unfold Debounce.rawChange
    split <;> rfl

/-! ### A debounced sense change -/

theorem debounced_value (s : State) (n k : StopNo) :
    ((s.debounced (.stop n)).scanner.stops[k]).value =
      if n = k then (s.scanner.stops[n]).raw else (s.scanner.stops[k]).value := by
  simp only [State.debounced, Scanner.withInput, Scanner.input, Debounce.expire, getElem_put_fin]
  split <;> rfl

/-- A sense that the drawn image does not read: above S, in STARTING, or while the stop moves (R7, R22). -/
theorem keeps_debounced_ignored {n : StopNo}
    (h : s.config.stops ≤ n.val ∨ s.live = false ∨
      s.node = .running ∧ (s.sequencer.motions[n]).motion.direction ≠ none) : Keeps s (s.debounced (.stop n)) := by
  refine ⟨keepsCore_debounced _ s, fun _ ⟨hd⟩ => ⟨?_⟩, id, fun ⟨hl⟩ => ⟨hl⟩⟩
  simp only [State.drawnLaw, debounced_node] at hd ⊢
  split at hd
  · rename_i hr
    intro k
    rw [debounced_resolver, hd k, State.imageOf_eq, State.imageOf_eq, debounced_value, debounced_config, debounced_sequencer]
    split
    · subst_vars
      rcases h with h | h | h
      · simp [Nat.not_lt.2 h]
      · simp [State.live, hr] at h
      · obtain ⟨d, hd⟩ := Option.ne_none_iff_exists'.1 h.2
        simp only [MotionRecord.image, hd]
    · rfl
  · rename_i hr
    intro k
    rw [debounced_resolver, hd k, debounced_value, debounced_config]
    split
    · subst_vars
      rcases h with h | h | h
      · simp [Nat.not_lt.2 h]
      · simp [State.live, hr] at h
      · simp [hr] at h
    · rfl
  · exact hd
  · trivial

/-- After a hand move the stop is at rest with its marker clear, and every other stop is as it was (R23, R24, R75). -/
theorem Sequencer.handMove_motions {sq sq' : Sequencer} {n : StopNo} (h : sq.handMove n = some sq') :
    sq'.motions = put sq.motions n ⟨.atRest, false⟩ := by
  unfold Sequencer.handMove at h
  split at h
  · obtain rfl := Option.some.inj h; rfl
  · obtain rfl := Option.some.inj h; rfl
  · cases h

/-- A report is ignored while the stop moves on its own (R22, R76). -/
theorem Sequencer.direction_of_handMove {sq : Sequencer} {n : StopNo} (h : sq.handMove n = none) :
    (sq.motions[n]).motion.direction ≠ none := by
  unfold Sequencer.handMove at h
  split at h
  · cases h
  · cases h
  · generalize (sq.motions[n]).motion = m at *
    cases m <;> simp_all [Motion.direction]

/-- The state of a hand move before the speaking set, the departure check and the start rule follow. -/
abbrev State.handMoved (s : State) (n : StopNo) (sq : Sequencer) : State :=
  let t := withSequencer sq (s.debounced (.stop n))
  { t with resolver := { t.resolver with drawn := put t.resolver.drawn n (s.scanner.stops[n]).raw } }

theorem keepsCore_handMoved {n : StopNo} {sq : Sequencer} (hr : s.node = .running)
    (h : s.sequencer.handMove n = some sq) : KeepsCore s (s.handMoved n sq) :=
  ((keepsCore_debounced (.stop n) s).trans (keepsCore_withSequencer (s := s.debounced (.stop n)) hr
    fun hc => (State.coilLaw_iff.1 hc).1.handMove h)).trans (keepsCore_drawn _ _)

theorem drawn_handMoved {n : StopNo} {sq : Sequencer} (hr : s.node = .running) (hn : n.val < s.config.stops)
    (hand : s.sequencer.handMove n = some sq) (h : s.DrawnHolds) : (s.handMoved n sq).DrawnHolds := by
  obtain ⟨h⟩ := h
  refine ⟨?_⟩
  simp only [State.drawnLaw, withSequencer_node, debounced_node, hr] at h ⊢
  intro k
  rw [State.imageOf_eq, withSequencer_sequencer, withSequencer_config, withSequencer_scanner, debounced_config,
    debounced_value, withSequencer_resolver, debounced_resolver, Sequencer.handMove_motions hand, getElem_put_fin,
    getElem_put_fin]
  split
  · subst_vars
    simp [hn, MotionRecord.image, Motion.direction, -Fin.getElem_fin]
  · rw [h k, State.imageOf_eq]

/-- A hand move keeps every law, once the drawn image is taken and what hangs on it has followed. -/
theorem keeps_handMove {n : StopNo} {sq : Sequencer} (hr : s.node = .running) (hn : n.val < s.config.stops)
    (hand : s.sequencer.handMove n = some sq) :
    Keeps s (drawByHand n (s.scanner.stops[n]).raw (withSequencer sq (s.debounced (.stop n)))) := by
  have hcore := keepsCore_handMoved hr hand
  have hdrawn (_ : s.coilLaw) (h : s.DrawnHolds) := drawn_handMoved hr hn hand h
  have hlamps : s.LampsHold → (s.handMoved n sq).LampsHold :=
    lampsHold_congr (withSequencer_node _ _) (congrArg Outputs.lamps (withSequencer_outputs _ _)) (withSequencer_config _ _)
      (withSequencer_straps _ _) (by simp) (by simp) (by simp)
  unfold drawByHand
  split
  · rename_i hsame
    have hput : s.handMoved n sq = withSequencer sq (s.debounced (.stop n)) := by
      simp only [State.handMoved, ← hsame, put_self]
    rw [hput] at hcore hlamps hdrawn
    refine ⟨hcore, hdrawn, fun hs => ?_, hlamps⟩
    rw [speakingLaw_iff, State.live, State.setsLaw, withSequencer_node, withSequencer_resolver, withSequencer_config]
    exact hs
  · have hlive : (refreshSpeaking (s.handMoved n sq)).live = true := by
      rw [live_congr (refreshSpeaking_node _)]
      exact (live_congr (withSequencer_node _ _)).trans (live_of_running hr)
    exact ((hcore.refreshSpeaking hdrawn hlamps).trans (keeps_checkGeneral hlive)).trans
      (keeps_checkDivisional ((live_congr (checkGeneral_node _)).trans hlive))

/-- In HAND_ONLY the drawn image follows the sense (R7). -/
theorem keeps_handOnlySense {n : StopNo} (hh : s.node = .handOnly) (hn : n.val < s.config.stops) :
    Keeps s (refreshSpeaking { s.debounced (.stop n) with
      resolver := { s.resolver with drawn := put s.resolver.drawn n (s.scanner.stops[n]).raw } }) := by
  refine KeepsCore.refreshSpeaking ((keepsCore_debounced (.stop n) s).trans (keepsCore_drawn _ _))
    (fun _ ⟨h⟩ => ⟨?_⟩) (lampsHold_congr (s := s) rfl rfl rfl rfl rfl rfl rfl)
  simp only [State.drawnLaw, debounced_node, hh] at h ⊢
  intro k
  rw [debounced_value, debounced_config, getElem_put_fin]
  split
  · subst_vars; simp [hn]
  · exact h k

/-- A sense report and what follows it (R7, R22 to R24, R62, R75, R76, R148, R149). -/
theorem keeps_senseReport (n : StopNo) (s : State) :
    Keeps s (senseReport n (s.scanner.stops[n]).raw (s.debounced (.stop n))) := by
  unfold senseReport
  by_cases hn : n.val < s.config.stops
  · have hserves : (s.debounced (.stop n)).serves n = true := decide_eq_true hn
    rw [if_neg (by simp [hserves])]
    split
    · rename_i hr
      split
      · rename_i sq hand
        dsimp only
        split
        · exact keeps_handMove hr hn hand
        · exact (keeps_handMove (s := s) hr hn hand).trans (keeps_startRule _)
      · rename_i hand
        exact keeps_debounced_ignored (.inr (.inr ⟨hr, Sequencer.direction_of_handMove hand⟩))
    · exact keeps_handOnlySense ‹_› hn
    · rename_i hrun hhand
      refine keeps_debounced_ignored (.inr (.inl ?_))
      unfold State.live
      split
      · exact absurd ‹s.node = .running› hrun
      · exact absurd ‹s.node = .handOnly› hhand
      · rfl
  · have hserves : (s.debounced (.stop n)).serves n = false := decide_eq_false hn
    rw [if_pos (by simp [hserves])]
    exact keeps_debounced_ignored (.inl (Nat.not_lt.1 hn))

/-! ### The cut of a supply fall -/

/-- The state after the cut of a fall, with another drawn image (R26, R79, R80). -/
abbrev State.fallen (s : State) (drawn : StopSet) : State :=
  let t := withSequencer { s.sequencer.cut with cutHold := some 20 } s
  { t with resolver := { t.resolver with drawn := drawn } }

theorem moving_getElem (sq : Sequencer) (n : StopNo) : sq.moving[n] = !(sq.motions[n]).motion.rests := by
  simp [Sequencer.moving]

theorem Motion.rests_iff {m : Motion} : m.rests = true ↔ m = .atRest := by cases m <;> simp [Motion.rests]

theorem cut_getElem (sq : Sequencer) (n : StopNo) : sq.cut.motions[n] = (sq.motions[n]).cut := by simp [Sequencer.cut]

theorem keepsCore_fallen (hr : s.node = .running) (d : StopSet) : KeepsCore s (s.fallen d) := by
  have h := keepsCore_withSequencer (sq := { s.sequencer.cut with cutHold := some 20 }) hr
    fun _ => Sequencer.wf_cut s.sequencer (some 20)
  exact h.trans (keepsCore_drawn _ _)

theorem drawn_fallen {d : StopSet}
    (hd : ∀ n : StopNo, d[n] = if s.sequencer.moving[n] then s.scanner.senses[n] else s.resolver.drawn[n])
    (hr : s.node = .running) (hc : s.coilLaw) (h : s.DrawnHolds) : (s.fallen d).DrawnHolds := by
  obtain ⟨h⟩ := h
  refine ⟨?_⟩
  simp only [State.drawnLaw, withSequencer_node, hr] at h ⊢
  intro n
  have hn := h n
  rw [State.imageOf_eq] at hn
  rw [State.imageOf_eq, withSequencer_sequencer, withSequencer_config, withSequencer_scanner, hd,
    moving_getElem, senses_getElem, cut_getElem]
  cases hm : (s.sequencer.motions[n]).motion.rests
  · have hmove : (s.sequencer.motions[n]).motion ≠ .atRest := fun e => by rw [e] at hm; cases hm
    have hbelow := (State.coilLaw_iff.1 hc).1.below_of_moving hmove
    simp [MotionRecord.cut, hm, MotionRecord.image, Motion.direction, hbelow, -Fin.getElem_fin]
  · simpa [MotionRecord.cut, hm, -Fin.getElem_fin] using hn

theorem keeps_cutAtFall (hr : s.node = .running) : Keeps s (cutAtFall s) := by
  unfold cutAtFall
  dsimp only
  generalize hdef : (table fun n => if s.sequencer.moving[n] = true then s.scanner.senses[n] else s.resolver.drawn[n]) = d
  have hd (n : StopNo) : d[n] = if s.sequencer.moving[n] then s.scanner.senses[n] else s.resolver.drawn[n] := by
    rw [← hdef, getElem_table_fin]
  have hcore := keepsCore_fallen hr d
  have hdrawn := drawn_fallen hd hr
  have hlamps : s.LampsHold → (s.fallen d).LampsHold :=
    lampsHold_congr (withSequencer_node _ _) (congrArg Outputs.lamps (withSequencer_outputs _ _)) (withSequencer_config _ _)
      (withSequencer_straps _ _) (by simp) (by simp) (by simp)
  split
  · rename_i hsame
    have hself : s.fallen d = withSequencer { s.sequencer.cut with cutHold := some 20 } s := by
      rw [State.fallen, hsame, ← withSequencer_resolver { s.sequencer.cut with cutHold := some 20 } s]
    rw [hself] at hcore hlamps hdrawn
    refine ⟨hcore, hdrawn, fun hs => ?_, hlamps⟩
    rw [speakingLaw_iff, State.live, State.setsLaw, withSequencer_node, withSequencer_resolver, withSequencer_config]
    exact hs
  · have hlive : (refreshSpeaking (s.fallen d)).live = true := by
      rw [live_congr (refreshSpeaking_node _)]
      exact (live_congr (withSequencer_node _ _)).trans (live_of_running hr)
    exact ((hcore.refreshSpeaking hdrawn hlamps).trans (keeps_checkGeneral hlive)).trans
      (keeps_checkDivisional ((live_congr (checkGeneral_node _)).trans hlive))

end

end Sys2Proof.Machine
end

section
/-! PROOF. The write list: how a write is placed in it, started and ended, and the laws of the store over that
(R35, R41 to R50). -/

namespace Sys2Proof.Machine

/-! ### The place of a write -/

theorem replaceWrite_eq_none {e : WriteEntry} {l : List WriteEntry} :
    replaceWrite e l = none ↔ ∀ f ∈ l, f.index ≠ e.index := by
  induction l with
  | nil => simp [replaceWrite]
  | cons f l ih =>
    unfold replaceWrite
    split
    · simp_all
    · simp_all

/-- The first entry of the same index is replaced in place (R43). -/
theorem replaceWrite_eq_some {e : WriteEntry} {l r : List WriteEntry} (h : replaceWrite e l = some r) :
    ∃ before f after, l = before ++ f :: after ∧ f.index = e.index ∧ r = before ++ e :: after := by
  induction l generalizing r with
  | nil => cases h
  | cons f l ih =>
    unfold replaceWrite at h
    split at h
    · exact ⟨[], f, l, rfl, ‹_›, (Option.some.inj h).symm⟩
    · obtain ⟨r', hr', rfl⟩ := Option.map_eq_some_iff.1 h
      obtain ⟨before, g, after, rfl, hg, rfl⟩ := ih hr'
      exact ⟨f :: before, g, after, rfl, hg, rfl⟩

theorem replaceWrite_indices {e : WriteEntry} {l r : List WriteEntry} (h : replaceWrite e l = some r) :
    r.map WriteEntry.index = l.map WriteEntry.index := by
  obtain ⟨before, f, after, rfl, hf, rfl⟩ := replaceWrite_eq_some h
  simp [hf]

/-- The list is the head while a write is in progress, and the waiting entries. -/
theorem Store.writes_eq (st : Store) :
    st.writes = (if st.stage.isSome then st.writes.take 1 else []) ++ st.waiting := by
  unfold Store.waiting
  split
  · exact (List.take_append_drop 1 st.writes).symm
  · rfl

/-- How an admitted write changes the list: in place, or at the tail of a list of fewer than 8 (R42, R43). -/
theorem Store.placeWrite_eq_some {st : Store} {e : WriteEntry} {ws : List WriteEntry} (h : st.placeWrite e = some ws) :
    (∃ r, replaceWrite e st.waiting = some r ∧ ws = (if st.stage.isSome then st.writes.take 1 else []) ++ r) ∨
      (replaceWrite e st.waiting = none ∧ st.writes.length < writeLimit ∧ ws = st.writes ++ [e]) := by
  unfold Store.placeWrite at h
  split at h
  · rename_i r hr
    exact .inl ⟨r, hr, (Option.some.inj h).symm⟩
  · rename_i hr
    split at h
    · exact .inr ⟨hr, ‹_›, (Option.some.inj h).symm⟩
    · cases h

/-! ### The law of the list -/

/-- The law of the write list over the store alone (R35, R41, R45). -/
structure Store.ListWf (st : Store) : Prop where
  length : st.writes.length ≤ writeLimit
  nodup : (st.waiting.map WriteEntry.index).Nodup
  head : st.stage ≠ none → st.writes ≠ [] ∧ ∀ e ∈ st.writes.head?, (st.array.read e.index).written = true
  index : ∀ e ∈ st.writes, e.index ≤ lastIndex

theorem State.writeListLaw_iff {s : State} : s.writeListLaw ↔ s.store.ListWf :=
  ⟨fun ⟨a, b, c, d⟩ => ⟨a, b, c, d⟩, fun ⟨a, b, c, d⟩ => ⟨a, b, c, d⟩⟩

theorem Store.ListWf.placeWrite {st : Store} {e : WriteEntry} {ws : List WriteEntry} (h : st.ListWf)
    (he : e.index ≤ lastIndex) (hp : st.placeWrite e = some ws) : Store.ListWf { st with writes := ws } := by
  obtain ⟨length, nodup, head, index⟩ := h
  rcases placeWrite_eq_some hp with ⟨r, hr, rfl⟩ | ⟨hr, hlt, rfl⟩
  · have hlen : (st.writes.take 1 : List WriteEntry).length + st.waiting.length = st.writes.length ∨
        st.stage.isSome = false := by
      unfold Store.waiting
      cases st.stage.isSome <;> simp
      omega
    have hrlen : r.length = st.waiting.length := by simpa using congrArg List.length (replaceWrite_indices hr)
    have hwaiting : Store.waiting { st with writes := (if st.stage.isSome then st.writes.take 1 else []) ++ r } = r := by
      unfold Store.waiting
      dsimp only
      split
      · rename_i hs
        have hne : st.writes ≠ [] := (head (by intro hn; simp [hn] at hs)).1
        cases hw : st.writes with
        | nil => exact absurd hw hne
        | cons f l => simp
      · simp
    refine ⟨?_, ?_, fun hs => ?_, fun f hf => ?_⟩
    · rw [List.length_append, hrlen]
      have hall := congrArg List.length st.writes_eq
      rw [List.length_append] at hall
      omega
    · rw [hwaiting, replaceWrite_indices hr]
      exact nodup
    · obtain ⟨hne, hwritten⟩ := head hs
      have hsome : st.stage.isSome = true := Option.isSome_iff_ne_none.2 hs
      cases hw : st.writes with
      | nil => exact absurd hw hne
      | cons f l =>
        rw [hw] at hwritten
        simpa [hsome] using hwritten
    · rcases List.mem_append.1 hf with hf | hf
      · split at hf
        · exact index f (List.mem_of_mem_take hf)
        · cases hf
      · obtain ⟨before, g, after, hw, -, rfl⟩ := replaceWrite_eq_some hr
        have hmem (x : WriteEntry) (hx : x ∈ before ++ after) : x.index ≤ lastIndex := by
          refine index x ?_
          rw [st.writes_eq, hw]
          simp only [List.mem_append, List.mem_cons] at hx ⊢
          tauto
        simp only [List.mem_append, List.mem_cons] at hf
        rcases hf with hf | rfl | hf
        · exact hmem f (by simp [hf])
        · exact he
        · exact hmem f (by simp [hf])
  · have hnew := replaceWrite_eq_none.1 hr
    refine ⟨by simpa using hlt, ?_, fun hs => ?_, fun f hf => ?_⟩
    · have hwaiting : Store.waiting { st with writes := st.writes ++ [e] } = st.waiting ++ [e] := by
        unfold Store.waiting
        dsimp only
        split
        · rename_i hs
          have hne : st.writes ≠ [] := (head (by intro hn; simp [hn] at hs)).1
          cases hw : st.writes with
          | nil => exact absurd hw hne
          | cons f l => simp
        · rfl
      rw [hwaiting, List.map_append]
      refine List.nodup_append.2 ⟨nodup, by simp, fun a ha b hb hab => ?_⟩
      obtain ⟨f, hf, rfl⟩ := List.mem_map.1 ha
      simp only [List.map_cons, List.map_nil, List.mem_singleton] at hb
      exact hnew f hf (hab.trans hb)
    · obtain ⟨hne, hwritten⟩ := head hs
      cases hw : st.writes with
      | nil => exact absurd hw hne
      | cons f l =>
        rw [hw] at hwritten
        exact ⟨by simp, by simpa using hwritten⟩
    · rcases List.mem_append.1 hf with hf | hf
      · exact index f hf
      · rw [List.mem_singleton.1 hf]
        exact he

/-- The store as the start of the head entry's write leaves it (R45). -/
abbrev Store.begun (st : Store) (e : WriteEntry) : Store :=
  { st with array := st.array.write e.index ((st.array.read e.index).begun e.source), stage := some .storing }

theorem Store.ListWf.begun {st : Store} (hm : st.array.wf = true) (h : st.ListWf) {e : WriteEntry}
    {ws : List WriteEntry} (hw : st.writes = e :: ws) (hs : st.stage = none) : (st.begun e).ListWf where
  length := h.length
  nodup := by
    have hn := h.nodup
    simp only [Store.waiting, hs, Option.isSome_none, Bool.false_eq_true, if_false] at hn
    simpa [Store.waiting, hw] using (hn.sublist ((List.drop_sublist 1 st.writes).map _))
  head _ := by
    refine ⟨by simp [hw], fun f hf => ?_⟩
    obtain rfl : e = f := by simpa [hw] using hf
    dsimp only
    rw [Memory.read_write_same _ _ hm]
    rfl
  index := h.index

/-- The head entry has left the list. -/
theorem Store.ListWf.done {st : Store} (h : st.ListWf) (hs : st.stage ≠ none) :
    Store.ListWf { st with writes := st.writes.drop 1, stage := none } where
  length := (List.drop_sublist 1 st.writes).length_le.trans h.length
  nodup := by simpa [Store.waiting, Option.isSome_iff_ne_none, hs] using h.nodup
  head hn := absurd rfl hn
  index e he := h.index e (List.mem_of_mem_drop he)

/-- The array changes, but no record loses its written mark. -/
theorem Store.ListWf.ofArray {st : Store} (h : st.ListWf) {m : Memory} (stage : Option WriteStage)
    (hs : stage.isSome = st.stage.isSome)
    (hm : ∀ i, (st.array.read i).written = true → (m.read i).written = true) :
    Store.ListWf { st with array := m, stage := stage } where
  length := h.length
  nodup := by simpa [Store.waiting, hs] using h.nodup
  head hn := by
    have hn' : st.stage ≠ none := by
      rw [← Option.isSome_iff_ne_none] at hn ⊢
      exact hs ▸ hn
    exact ⟨(h.head hn').1, fun e he => hm _ ((h.head hn').2 e he)⟩
  index := h.index

theorem Memory.written_land {m : Memory} (hm : m.wf = true) (i : Nat) (a : ArrayBytes) (k : Nat)
    (h : (m.read k).written = true) : ((m.land i a).read k).written = true := by
  unfold Memory.land
  by_cases hk : k = i
  · subst hk; rw [Memory.read_write_same _ _ hm]; exact h
  · rw [Memory.read_write_other _ hm hk]; exact h

/-! ### The events of the store -/

section
variable {s t : State}

/-- A change of the store that keeps its own laws. -/
theorem keeps_store {st : Store} (memory : s.memoryLaw → st.array.wf = true)
    (writes : s.memoryLaw → s.serviceLaw → s.store.ListWf → st.ListWf) : Keeps s { s with store := st } where
  memory := memory
  writes hm hv hw := State.writeListLaw_iff.2 (writes hm hv (State.writeListLaw_iff.1 hw))

theorem keeps_startWrite (s : State) : Keeps s (startWrite s) := by
  rcases startWrite_cases s with e | ⟨e, ws, hw, hs, -, -, heq⟩
  · rw [e]; exact .refl s
  · rw [heq]
    exact keeps_store (fun hm => Memory.write_wf _ _ hm) fun hm _ h => h.begun hm hw hs

theorem keeps_offerWrite {i : Nat} (hi : s.serviceLaw → i ≤ lastIndex) (b : EntryBytes) (c : Source) :
    Keeps s (offerWrite i b c s).1 := by
  rcases offerWrite_cases i b c s with ⟨ws, hp, e⟩ | ⟨-, e⟩ <;> rw [e]
  · exact (keeps_store (st := { s.store with writes := ws }) id fun _ hv h => h.placeWrite (hi hv) hp).trans (keeps_startWrite _)
  · exact keeps_setFlag rfl s

theorem keeps_writeDone (hs : s.store.stage ≠ none) : Keeps s (writeDone s) :=
  (keeps_store (st := { s.store with writes := s.store.writes.drop 1, stage := none }) id fun _ _ h => h.done hs).trans
    (keeps_startWrite _)

theorem keeps_verifyHead {e : WriteEntry} (r : Option ArrayBytes) (hs : s.store.stage ≠ none) :
    Keeps s (verifyHead e r s) := by
  unfold verifyHead
  dsimp only
  split
  · exact (keeps_store (st := { s.store with array := s.store.array.land e.index (r.getD e.meant) })
      (Memory.land_wf _ _) fun hm _ h => h.ofArray s.store.stage rfl (Memory.written_land hm _ _)).trans
        (keeps_writeDone (s := { s with store := { s.store with
          array := s.store.array.land e.index (r.getD e.meant) } }) hs)
  · exact keeps_store (Memory.land_wf _ _) fun hm _ h =>
      h.ofArray (some .forcing) (Option.isSome_iff_ne_none.2 hs).symm (Memory.written_land hm _ _)

theorem keeps_forcingEnds {e : WriteEntry} (held : Option ArrayBytes) (hs : s.store.stage ≠ none) :
    Keeps s (forcingEnds e held s) := by
  unfold forcingEnds
  dsimp only
  generalize held.getD _ = a
  refine ((keeps_store (st := { s.store with array := s.store.array.land e.index a })
    (Memory.land_wf _ _) fun hm _ h => h.ofArray s.store.stage rfl (Memory.written_land hm _ _)).trans
      (keeps_setFlag (f := .damaged) rfl _)).trans (keeps_writeDone ?_)
  rw [setFlag_store]
  exact hs

theorem keeps_clearOption (option : Byte) (s : State) : Keeps s (clearOption option s) := by
  unfold clearOption
  split
  · exact .refl s
  · refine keeps_store Store.clearChanged_wf fun hm _ h => ?_
    refine h.ofArray s.store.stage rfl fun i hi => ?_
    have hread := Store.read_clearChanged (st := s.store) i hm
    have : (s.store.clearChanged.array.read i).written = true := by
      rw [hread]
      split <;> exact hi
    exact this

end

end Sys2Proof.Machine
end

section
/-! PROOF. The shoe unit: filter, position, stages and follower as the rules say them, the statements on samples and
stages, and the laws of the unit over its events (R106 to R125). -/

namespace Sys2Proof.Machine

/-! ### Stages -/

/-- The largest stage reached: it is 0 or reached, and no higher one is. -/
theorem largestStage_spec (reached : Nat → Bool) (n : Nat) :
    largestStage reached n ≤ n ∧ (largestStage reached n = 0 ∨ reached (largestStage reached n) = true) ∧
      ∀ k, largestStage reached n < k → k ≤ n → reached k = false := by
  induction n with
  | zero => exact ⟨le_rfl, .inl rfl, fun k h h' => absurd h' (by simp only [largestStage] at h; omega)⟩
  | succ n ih =>
    unfold largestStage
    split
    · rename_i h
      exact ⟨le_rfl, .inr h, fun k h h' => absurd h' (by omega)⟩
    · rename_i h
      obtain ⟨hle, hreached, habove⟩ := ih
      refine ⟨by omega, hreached, fun k hk hkn => ?_⟩
      rcases Nat.lt_or_ge n k with hn | hn
      · obtain rfl : k = n + 1 := by omega
        simpa using h
      · exact habove k hk hn

section
variable (c : ShoeConfig)

/-- The stage a position reaches is the highest whose threshold it meets (R110, R117). -/
theorem ShoeConfig.reachedStage_spec (p : Nat) :
    c.reachedStage p ≤ c.stages ∧ (c.reachedStage p = 0 ∨ c.threshold (c.reachedStage p) ≤ p) ∧
      ∀ k, c.reachedStage p < k → k ≤ c.stages → p < c.threshold k := by
  obtain ⟨hle, hreached, habove⟩ := largestStage_spec (fun k => decide (c.threshold k ≤ p)) c.stages
  exact ⟨hle, hreached.imp_right of_decide_eq_true, fun k hk hkn => by simpa using habove k hk hkn⟩

/-- The target rises at once (R117). -/
theorem ShoeConfig.newTargetStage_of_lt {held p : Nat} (h : held < c.reachedStage p) :
    c.newTargetStage held p = c.reachedStage p := if_pos h

/-- The target falls to the highest stage whose threshold, less the hysteresis, the position meets (R117). -/
theorem ShoeConfig.newTargetStage_spec {held p : Nat} (h : c.reachedStage p ≤ held) :
    c.newTargetStage held p ≤ held ∧
      (c.newTargetStage held p = 0 ∨ c.threshold (c.newTargetStage held p) ≤ p + c.hysteresis) ∧
      ∀ k, c.newTargetStage held p < k → k ≤ held → p + c.hysteresis < c.threshold k := by
  have heq : c.newTargetStage held p = largestStage (fun k => decide (c.threshold k ≤ p + c.hysteresis)) held :=
    if_neg (by omega)
  rw [heq]
  obtain ⟨hle, hreached, habove⟩ := largestStage_spec (fun k => decide (c.threshold k ≤ p + c.hysteresis)) held
  exact ⟨hle, by simpa using hreached, fun k hk hkn => by simpa using habove k hk hkn⟩

theorem ShoeConfig.newTargetStage_le {held p : Nat} (h : held ≤ c.stages) : c.newTargetStage held p ≤ c.stages := by
  rcases Nat.lt_or_ge held (c.reachedStage p) with hlt | hge
  · rw [c.newTargetStage_of_lt hlt]
    exact (c.reachedStage_spec p).1
  · exact (c.newTargetStage_spec hge).1.trans h

/-! ### The position -/

theorem ShoeConfig.span_of_rising (h : c.heel < c.toe) : c.span = (c.toe : Int) - c.heel - c.heelBand - c.toeBand :=
  if_pos h

theorem ShoeConfig.span_of_falling (h : ¬ c.heel < c.toe) : c.span = (c.heel : Int) - c.toe - c.heelBand - c.toeBand :=
  if_neg h

theorem ShoeConfig.distance_of_rising (f : Nat) (h : c.heel < c.toe) :
    c.distance f = (f : Int) - c.heel - c.heelBand := if_pos h

theorem ShoeConfig.distance_of_falling (f : Nat) (h : ¬ c.heel < c.toe) :
    c.distance f = (c.heel : Int) - f - c.heelBand := if_neg h

theorem ShoeConfig.calibrated_iff : c.calibrated = true ↔ 64 ≤ ((c.toe : Int) - c.heel).natAbs ∧ 32 ≤ c.span := by
  simp [ShoeConfig.calibrated]

/-- Before the travel the position is 0 (R114, R115). -/
theorem ShoeConfig.normalized_of_before {f : Nat} (h : c.distance f ≤ 0) : c.normalized f = 0 := by
  have hzero : max 0 (min (c.distance f) c.span) = 0 := by omega
  simp [ShoeConfig.normalized, hzero]

/-- Past the travel the position is 1023 (R114, R115). -/
theorem ShoeConfig.normalized_of_past {f : Nat} (hs : 0 < c.span) (h : c.span ≤ c.distance f) : c.normalized f = 1023 := by
  have hall : max 0 (min (c.distance f) c.span) = c.span := by omega
  rw [ShoeConfig.normalized, hall]
  exact Nat.mul_div_cancel_left 1023 (by omega)

/-- Within the travel the position is the distance scaled to 1023, rounded down (R115). -/
theorem ShoeConfig.normalized_within {f : Nat} (hs : 0 < c.span) (h0 : 0 ≤ c.distance f) (h1 : c.distance f ≤ c.span) :
    (c.normalized f : Int) * c.span ≤ c.distance f * 1023 ∧
      c.distance f * 1023 < ((c.normalized f : Int) + 1) * c.span := by
  have hdist : max 0 (min (c.distance f) c.span) = c.distance f := by omega
  rw [ShoeConfig.normalized, hdist]
  obtain ⟨a, ha⟩ := Int.eq_ofNat_of_zero_le h0
  obtain ⟨b, hb⟩ := Int.eq_ofNat_of_zero_le hs.le
  rw [ha, hb]
  have hb0 : 0 < b := by omega
  rw [Int.toNat_natCast, Int.toNat_natCast]
  have hle : a * 1023 / b * b ≤ a * 1023 := Nat.div_mul_le_self _ _
  have hlt : a * 1023 < (a * 1023 / b + 1) * b := by
    rw [mul_comm, mul_comm _ b]
    exact mul_comm 1023 a ▸ Nat.lt_mul_div_succ (a * 1023) hb0
  exact ⟨by exact_mod_cast hle, by exact_mod_cast hlt⟩

theorem ShoeConfig.normalized_le (f : Nat) : c.normalized f ≤ 1023 := by
  unfold ShoeConfig.normalized
  have hclamp : (max 0 (min (c.distance f) c.span)).toNat ≤ c.span.toNat := by
    rcases Int.le_total (c.distance f) c.span with h | h <;> simp only [min_eq_left h, min_eq_right h] <;> omega
  exact Nat.div_le_of_le_mul (Nat.mul_le_mul_right 1023 hclamp)

end

/-- Settles O59: from the wiring to span and distance, and from the position to the stages. -/
theorem stagesFollowThePosition : Obligations.StagesFollowThePosition := by
  refine ⟨fun c => ?_, fun c f p held hcal _ _ => ?_⟩
  · rw [c.calibrated_iff]
    by_cases h : c.heel < c.toe
    · rw [c.span_of_rising h]
      simp [h, Nat.not_le.2 h]
    · rw [c.span_of_falling h]
      simp [h, Nat.not_lt.1 h]
  · have hspan := (c.calibrated_iff.1 hcal).2
    refine ⟨c.span, c.distance f, fun h => ⟨c.span_of_rising h, c.distance_of_rising f h⟩, fun h => ?_, hspan,
      c.normalized_of_before, c.normalized_of_past (by omega), c.normalized_within (by omega), ?_⟩
    · exact ⟨c.span_of_falling (by omega), c.distance_of_falling f (by omega)⟩
    · obtain ⟨hle, hreached, habove⟩ := c.reachedStage_spec p
      exact ⟨hle, hreached, habove, c.newTargetStage_of_lt, fun h => c.newTargetStage_spec h⟩

/-! ### The filter and the follower -/

/-- The filter steps toward the sample by a power of two of the distance, and by one at least (R111). -/
theorem filterStep_spec (strength F x : Nat) : ∃ step : Int, (filterStep strength F x : Int) = F + step ∧
    (step = (16 * (x : Int) - F).tdiv (2 ^ strength) ∨
      ((16 * (x : Int) - F).tdiv (2 ^ strength) = 0 ∧
        ((0 < 16 * (x : Int) - F ∧ step = 1) ∨ (16 * (x : Int) - F < 0 ∧ step = -1)))) ∧
    (16 * (x : Int) - F ≠ 0 → step ≠ 0) ∧
    (0 ≤ 16 * (x : Int) - F → 0 ≤ step ∧ step ≤ 16 * (x : Int) - F) ∧
    (16 * (x : Int) - F ≤ 0 → step ≤ 0 ∧ 16 * (x : Int) - F ≤ step) := by
  unfold filterStep
  dsimp only
  generalize hD : 16 * (x : Int) - F = D
  have hpow : (1 : Int) ≤ ((2 ^ strength : Nat) : Int) := by exact_mod_cast Nat.one_le_two_pow
  have hcast : ((2 ^ strength : Nat) : Int) = 2 ^ strength := by push_cast; rfl
  rw [hcast] at hpow ⊢
  have hpos (h : 0 ≤ D) : 0 ≤ D.tdiv (2 ^ strength) ∧ D.tdiv (2 ^ strength) ≤ D := by
    rw [Int.tdiv_eq_ediv_of_nonneg h]
    exact ⟨Int.ediv_nonneg h (by omega), Int.ediv_le_self _ h⟩
  have hneg (h : D ≤ 0) : D.tdiv (2 ^ strength) ≤ 0 ∧ D ≤ D.tdiv (2 ^ strength) := by
    have hnonneg : 0 ≤ -D := by omega
    have h1 := Int.ediv_nonneg (b := 2 ^ strength) hnonneg (by omega)
    have h2 := Int.ediv_le_self (2 ^ strength) hnonneg
    rw [← Int.tdiv_eq_ediv_of_nonneg hnonneg, Int.neg_tdiv] at h1 h2
    omega
  generalize hq : D.tdiv (2 ^ strength) = q at hpos hneg
  by_cases hstep : q = 0 ∧ D ≠ 0
  · rw [if_pos hstep]
    rcases lt_or_gt_of_ne hstep.2 with hlt | hgt
    · rw [if_neg (by omega)]
      exact ⟨-1, by omega, .inr ⟨hstep.1, .inr ⟨hlt, rfl⟩⟩, by omega, by omega, by omega⟩
    · rw [if_pos hgt]
      exact ⟨1, by omega, .inr ⟨hstep.1, .inl ⟨hgt, rfl⟩⟩, by omega, by omega, by omega⟩
  · rw [if_neg hstep]
    refine ⟨q, ?_, .inl rfl, fun h hq0 => hstep ⟨hq0, h⟩, fun h => hpos h, fun h => hneg h⟩
    rcases le_total 0 D with h | h
    · have := hpos h; omega
    · have := hneg h; omega

/-- The filter value stays in range (R106, R111). -/
theorem filterStep_le {strength F x : Nat} (hF : F ≤ 16368) (hx : x ≤ 1023) : filterStep strength F x ≤ 16368 := by
  obtain ⟨step, heq, -, -, hup, hdown⟩ := filterStep_spec strength F x
  rcases le_total 0 (16 * (x : Int) - F) with h | h
  · have := hup h; omega
  · have := hdown h; omega

theorem filtered_mul (x : Nat) : filtered (16 * x) = x := by unfold filtered; omega

/-- The displayed stage steps by the follower (R119, R120). -/
theorem follow_of_none {displayed target : Nat} (count : Option Nat) : follow 0 displayed target count = (target, none) :=
  rfl

theorem follow_of_same {period t : Nat} (hp : 0 < period) (count : Option Nat) :
    follow period t t count = (t, none) := by
  simp [follow, hp.ne']

theorem follow_of_start {period displayed target : Nat} (hp : 0 < period) (h : displayed ≠ target) :
    follow period displayed target none = (displayed, some period) := by
  simp [follow, hp.ne', h]

theorem follow_of_wait {period displayed target k : Nat} (hp : 0 < period) (h : displayed ≠ target) (hk : 1 < k) :
    follow period displayed target (some k) = (displayed, some (k - 1)) := by
  simp [follow, hp.ne', h, hk]

theorem follow_of_expiry {period displayed target k : Nat} (hp : 0 < period) (h : displayed ≠ target) (hk : k ≤ 1) :
    follow period displayed target (some k) =
      (if displayed < target then displayed + 1 else displayed - 1,
        if (if displayed < target then displayed + 1 else displayed - 1) = target then none else some period) := by
  have hstep : stepToward displayed target = if displayed < target then displayed + 1 else displayed - 1 := by
    unfold stepToward
    split
    · rfl
    · rw [if_pos (by omega)]
  simp only [follow, if_neg hp.ne', if_neg h, if_neg (Nat.not_lt.2 hk), hstep]

/-- The follower keeps displayed stage and count in range (R106, R119). -/
theorem follow_range {period displayed target stages : Nat} {count : Option Nat} (hd : displayed ≤ stages)
    (ht : target ≤ stages) (hc : ∀ k ∈ count, 1 ≤ k ∧ k ≤ period) :
    (follow period displayed target count).1 ≤ stages ∧
      ∀ k ∈ (follow period displayed target count).2, 1 ≤ k ∧ k ≤ period := by
  rcases Nat.eq_zero_or_pos period with rfl | hp
  · exact ⟨ht, nofun⟩
  by_cases hdt : displayed = target
  · subst hdt
    rw [follow_of_same hp]
    exact ⟨hd, nofun⟩
  rcases count with _ | k
  · rw [follow_of_start hp hdt]
    exact ⟨hd, fun k hk => by obtain rfl := Option.some.inj hk; omega⟩
  · obtain ⟨hk1, hkp⟩ := hc k rfl
    rcases Nat.lt_or_ge 1 k with hk | hk
    · rw [follow_of_wait hp hdt hk]
      exact ⟨hd, fun j hj => by obtain rfl := Option.some.inj hj; omega⟩
    · rw [follow_of_expiry hp hdt hk]
      refine ⟨by dsimp only; split <;> omega, fun j hj => ?_⟩
      dsimp only at hj
      generalize (if displayed < target then displayed + 1 else displayed - 1) = next at hj
      split at hj
      · cases hj
      · obtain rfl := Option.some.inj hj; omega

end Sys2Proof.Machine
end

section
/-! PROOF. The samples of the shoe unit: the statement on them, and the laws over every event of the unit
(R105 to R125). -/

namespace Sys2Proof.Machine

section
variable {s t : State} {c : ShoeConfig} {x : Nat}

theorem activeShoe_of_active (hr : s.node = .running) (hu : s.shoe.unit = .active) : s.activeShoe = s.config.shoe := by
  simp [State.activeShoe, runs_of_running hr, hu]

theorem activeShoe_of_not_active (hu : s.shoe.unit ≠ .active) : s.activeShoe = none := by
  simp [State.activeShoe, hu]

/-- A calibration is in use only by an ACTIVE unit of a RUNNING node (R105). -/
theorem activeShoe_eq_some (h : s.activeShoe = some c) :
    s.node = .running ∧ s.shoe.unit = .active ∧ s.config.shoe = some c := by
  unfold State.activeShoe at h
  split at h
  · rename_i hp
    obtain ⟨hr, hu⟩ := Bool.and_eq_true_iff.1 hp
    exact ⟨node_of_runs hr, eq_of_beq hu, h⟩
  · cases h

theorem activeShoe_isSome (h : s.activeShoe.isSome = true) : s.node = .running ∧ s.shoe.unit = .active := by
  obtain ⟨c, hc⟩ := Option.isSome_iff_exists.1 h
  obtain ⟨hr, hu, -⟩ := activeShoe_eq_some hc
  exact ⟨hr, hu⟩

theorem exec_shoeSample_of_active (h : s.activeShoe = some c) (hx : x ≤ 1023) :
    exec (.shoeSample x) s = .next (takeSample c x s) := by
  simp only [exec_shoeSample, execShoeSample, h, if_pos hx]

theorem exec_followerExpiry_of_active (h : s.activeShoe = some c) (hx : x ≤ 1023) :
    exec (.followerExpiry x) s = if s.shoe.followerExpires c x then .next (takeSample c x s) else .next s := by
  simp only [exec_followerExpiry, execFollowerExpiry, h, hx, true_and]

/-- A later sample offers a SHOE exactly where the displayed stage changed (R109). -/
theorem takeSample_of_later (hf : s.shoe.firstDone = true) :
    takeSample c x s =
      if (s.shoe.sampled c x).displayed = s.shoe.displayed then { s with shoe := s.shoe.sampled c x }
      else (offer (.shoe s.straps.division (lowByte s.shoe.program) (lowByte (s.shoe.sampled c x).displayed))
        { s with shoe := s.shoe.sampled c x }).1 := by
  unfold takeSample
  rw [if_pos hf]
  rfl

/-- The first sample sets the unit up at the stage it reaches (R110). -/
theorem takeSample_of_first (hf : s.shoe.firstDone = false) :
    takeSample c x s =
      (offer (.shoe s.straps.division (lowByte s.shoe.program) (lowByte (c.reachedStage (c.normalized x))))
        { s with shoe := { s.shoe with
          filter := some (16 * x), reading := some x, position := some (c.normalized x),
          target := c.reachedStage (c.normalized x), displayed := c.reachedStage (c.normalized x),
          firstDone := true, follower := none, refresh := some 500 } }).1 := by
  unfold takeSample firstSample
  rw [if_neg (by simp [hf]), filtered_mul]
  rfl

/-- The expiry of the follower count, at a displayed stage that has not reached its target (R120). -/
theorem followerExpires_of_expiry (hf : s.shoe.firstDone = true) (hp : 0 < c.follower)
    (hne : s.shoe.displayed ≠ (s.shoe.sampled c x).target) {k : Nat} (hk : s.shoe.follower = some k) (hk1 : k ≤ 1) :
    s.shoe.followerExpires c x = true := by
  simp [Shoe.followerExpires, hf, hp.ne', hne, hk, hk1]

/-- Settles O58: each sample is the filter step, the position, the stages and the follower in turn. -/
theorem samplesMoveTheShoe : Obligations.SamplesMoveTheShoe := by
  intro x c s hr hx
  refine ⟨fun hu => ?_, fun hu hc => ?_⟩
  · have hnone := activeShoe_of_not_active hu
    refine ⟨?_, ?_, ?_⟩
    · simp only [exec_shoeSample, execShoeSample, hnone]
    · simp only [exec_followerExpiry, execFollowerExpiry, hnone]
    · simp [execRefreshExpiry, hnone]
  have hactive : s.activeShoe = some c := (activeShoe_of_active hr hu).trans hc
  have hsample := exec_shoeSample_of_active (x := x) hactive hx
  refine ⟨fun hrefresh => ?_, fun hf => ?_, fun F hf hF hF' => ?_⟩
  · have hsome := Option.isSome_iff_ne_none.2 hrefresh
    simp only [exec_refreshExpiry, execRefreshExpiry, hactive, Option.isSome_some, Bool.true_and, if_pos hsome]
    rfl
  · rw [hsample, takeSample_of_first hf]
  · obtain ⟨step, hstep, hquotient, hne, -⟩ := filterStep_spec c.filter F x
    have hget : s.shoe.filter.getD 0 = F := by rw [hF]; rfl
    refine ⟨s.shoe.sampled c x, filterStep c.filter F x, _, step, filterStep_le hF' hx, rfl, hstep, hquotient, hne, ?_⟩
    have hsampled : s.shoe.sampled c x = { s.shoe with
        filter := some (filterStep c.filter F x)
        reading := some (filtered (filterStep c.filter F x))
        position := some (c.normalized (filtered (filterStep c.filter F x)))
        target := c.newTargetStage s.shoe.target (c.normalized (filtered (filterStep c.filter F x)))
        displayed := (s.shoe.sampled c x).displayed
        follower := (s.shoe.sampled c x).follower } := by
      simp only [Shoe.sampled, hget]
    have hfollow : ((s.shoe.sampled c x).displayed, (s.shoe.sampled c x).follower) =
        follow c.follower s.shoe.displayed (s.shoe.sampled c x).target s.shoe.follower := rfl
    generalize hsh : s.shoe.sampled c x = sh at hsampled hfollow
    have hpair {a : Nat} {b : Option Nat} (h : follow c.follower s.shoe.displayed sh.target s.shoe.follower = (a, b)) :
        sh.displayed = a ∧ sh.follower = b := Prod.mk.injEq .. ▸ hfollow.trans h
    have hlater := takeSample_of_later (c := c) (x := x) hf
    rw [hsh] at hlater
    refine ⟨hsampled, fun h0 => hpair (by rw [h0]; rfl), fun hp heq => hpair (by rw [heq]; exact follow_of_same hp _),
      fun hp hd hk => hpair (by rw [hk]; exact follow_of_start hp hd),
      fun k hp hd hk hk1 => hpair (by rw [hk]; exact follow_of_wait hp hd hk1), fun k hp hd hk hk1 => ?_,
      fun hsame => ?_, fun hdiff => ?_⟩
    · obtain ⟨hdisplayed, hcount⟩ := hpair (hk ▸ follow_of_expiry hp hd hk1)
      refine ⟨hdisplayed, by rw [hcount, hdisplayed], ?_⟩
      rw [exec_followerExpiry_of_active hactive hx, hsample,
        if_pos (followerExpires_of_expiry hf hp (by rw [hsh]; exact hd) hk hk1)]
    · rw [hsample, hlater, if_pos hsame]
    · rw [hsample, hlater, if_neg hdiff]

/-! ### The laws of the unit -/

/-- The shoe unit changes and stays in one state; its ranges hold. -/
theorem keeps_shoe {sh : Shoe} (unit : sh.unit = s.shoe.unit)
    (law : s.shoeLaw → State.shoeLaw { s with shoe := sh }) : Keeps s { s with shoe := sh } where
  shoe := law
  fault _ h := causesHold_congr (s := s) rfl rfl ⟨.rfl, id⟩ unit (.refl _) (fun _ => rfl) h

theorem shoeLaw_firstSample (hx : x ≤ 1023) (hc : s.config.shoe = some c) (h : s.shoeLaw) :
    State.shoeLaw { s with shoe := { s.shoe with
      filter := some (16 * x), reading := some x, position := some (c.normalized x),
      target := c.reachedStage (c.normalized x), displayed := c.reachedStage (c.normalized x),
      firstDone := true, follower := none, refresh := some 500 } } := by
  obtain ⟨-, -, -, hprogram, -, -, -⟩ := h
  have hle := (c.reachedStage_spec (c.normalized x)).1
  have hpos := c.normalized_le x
  refine ⟨?_, ?_, ?_, hprogram, ?_, ?_, by simp⟩
  · simp; omega
  · simpa using hx
  · simpa using hpos
  · simp
  · intro d hd
    obtain rfl : c = d := Option.some.inj (hc ▸ hd)
    exact ⟨hle, hle, nofun⟩

theorem shoeLaw_sampled (hx : x ≤ 1023) (hc : s.config.shoe = some c) (h : s.shoeLaw) :
    State.shoeLaw { s with shoe := s.shoe.sampled c x } := by
  obtain ⟨hfilter, -, -, hprogram, hrefresh, hstages, -⟩ := h
  obtain ⟨htarget, hdisplayed, hfollower⟩ := hstages c hc
  have hF : s.shoe.filter.getD 0 ≤ 16368 := by
    cases hf : s.shoe.filter with
    | none => simp
    | some F => exact hfilter F hf
  have hstep := filterStep_le (strength := c.filter) hF hx
  have hnew := c.newTargetStage_le (p := c.normalized (filtered (filterStep c.filter (s.shoe.filter.getD 0) x))) htarget
  obtain ⟨hd, hk⟩ := follow_range hdisplayed hnew hfollower
  refine ⟨?_, ?_, ?_, hprogram, hrefresh, ?_, by simp [Shoe.sampled]⟩
  · simpa [Shoe.sampled] using hstep
  · have : filtered (filterStep c.filter (s.shoe.filter.getD 0) x) ≤ 1023 := by unfold filtered; omega
    simpa [Shoe.sampled] using this
  · simpa [Shoe.sampled] using c.normalized_le _
  · intro d hd'
    obtain rfl : c = d := Option.some.inj (hc ▸ hd')
    exact ⟨hnew, hd, hk⟩

theorem keeps_refreshLoaded (s : State) : Keeps s { s with shoe := { s.shoe with refresh := some 500 } } :=
  keeps_shoe rfl fun ⟨h1, h2, h3, h4, _, h6, h7⟩ => ⟨h1, h2, h3, h4, by simp, h6, h7⟩

theorem keeps_takeSample (hr : s.node = .running) (hx : x ≤ 1023) (hc : s.config.shoe = some c) :
    Keeps s (takeSample c x s) := by
  have hl := live_of_running hr
  have hoffer {u : State} {p k : Byte} (hu : Keeps s u) (hl : u.live = true) (hs : u.straps = s.straps) :
      Keeps s (offer (.shoe s.straps.division p k) u).1 :=
    hu.trans (keeps_offer hl rfl (by simp [Body.shoeDivisionIs, hs]))
  cases hf : s.shoe.firstDone
  · rw [takeSample_of_first hf]
    exact hoffer (keeps_shoe rfl (shoeLaw_firstSample hx hc)) hl rfl
  · have hsampled : Keeps s { s with shoe := s.shoe.sampled c x } := keeps_shoe rfl (shoeLaw_sampled hx hc)
    rw [takeSample_of_later hf]
    split
    · exact hsampled
    · exact hoffer hsampled hl rfl

end

end Sys2Proof.Machine
end

section
/-! PROOF. The frames the resolver acts on keep the laws: RECALL, CANCEL, CAPTURE, DEVIATE, LEVEL, LOCK, SHOE and TUTTI,
and the silence timer (R10 to R20, R87 to R89, R129 to R140). -/

namespace Sys2Proof.Machine

section
variable {s t u : State}

/-! ### Acting on a frame -/

theorem keeps_whenRunning {c : Instr} {act : State → State}
    (h : s.node = .running → s.rangeFault c = false → Keeps s (act s)) : Keeps s (whenRunning c act s) := by
  unfold whenRunning
  split
  · exact keeps_setFlag rfl s
  · rename_i hrange
    split
    · rename_i hr
      exact h (node_of_runs hr) (by simpa using hrange)
    · exact .refl s

theorem pistonInRange_general {p l : Byte} :
    pistonInRange .general p l = true ↔ 1 ≤ p.toNat ∧ p.toNat ≤ 48 ∧ l.toNat ≤ 127 := by
  simp [pistonInRange, and_assoc]

theorem pistonInRange_divisional {p l : Byte} :
    pistonInRange .divisional p l = true ↔ 1 ≤ p.toNat ∧ p.toNat ≤ 12 ∧ l.toNat ≤ 127 := by
  simp [pistonInRange, and_assoc]

/-! ### References and passes -/

theorem keepsCore_setGeneral {r : Reference} {level : Byte} (hl : level.toNat ≤ 127) (hp : 1 ≤ r.piston ∧ r.piston ≤ 48) :
    KeepsCore s (setGeneral r level s) where
  level := by
    rintro ⟨h1, h2, -, h4, h5, h6, h7⟩
    refine ⟨h1, h2, ?_, h4, h5, h6, h7⟩
    rintro p hp'
    obtain rfl := Option.some.inj hp'
    exact ⟨hl, hp.1, hp.2⟩

theorem drawn_setGeneral (r : Reference) (level : Byte) (s : State) : s.DrawnHolds → (setGeneral r level s).DrawnHolds :=
  fun ⟨h⟩ => ⟨h⟩

theorem drawn_setDivisional (r : Reference) (s : State) : s.DrawnHolds → (setDivisional r s).DrawnHolds :=
  fun ⟨h⟩ => ⟨h⟩

theorem keepsCore_setDivisional (r : Reference) (s : State) : KeepsCore s (setDivisional r s) := {}

theorem keepsCore_setLampReference (d : Division) (r : Option LampReference) (s : State) :
    KeepsCore s (setLampReference d r s) := by
  unfold setLampReference
  split
  · exact {}
  · exact {}

theorem keepsCore_clearReferences (s : State) : KeepsCore s (clearReferences s) := {}

theorem drawn_cancelled (s : State) : s.DrawnHolds → (tuttiGoesOff (clearReferences s)).DrawnHolds := fun ⟨h⟩ => ⟨h⟩

theorem keepsCore_tuttiGoesOff (s : State) : KeepsCore s (tuttiGoesOff s) where
  sets := by
    rintro ⟨-, h2, -⟩
    exact ⟨fun _ => ⟨rfl, rfl⟩, h2, fun n => by
      show (StopSet.empty[n] && StopSet.empty[n]) = false
      rw [getElem_empty]; rfl⟩

/-- A pass of a RUNNING node, what is done to the references, and the speaking set and the lamps that follow. -/
theorem keeps_pass (g : StopSet) (hr : s.node = .running) (hu : KeepsCore (applyTargets g s) u)
    (hd : (applyTargets g s).DrawnHolds → u.DrawnHolds) (hn : u.node = .running) :
    Keeps s (refreshLamps (refreshSpeaking u)) :=
  ((keepsCore_applyTargets g hr).trans hu).refreshBoth (fun _ h => hd (drawn_applyTargets g hr h)) hn

/-- A change of the references of a RUNNING node and the lamps that follow. -/
theorem keeps_references (hr : t.node = .running) (h : KeepsCore s t) (hd : s.DrawnHolds → t.DrawnHolds)
    (hs : s.speakingLaw → t.speakingLaw) : Keeps s (refreshLamps t) := h.refreshLamps (fun _ => hd) hs hr

theorem keeps_generalRecall {tag : Tag} {p l : Byte} (hr : s.node = .running) (hp : pistonInRange .general p l = true) :
    Keeps s (generalRecallEffect tag p l s) := by
  obtain ⟨hp1, hp2, hl⟩ := pistonInRange_general.1 hp
  have hnode : (readRecord (generalIndex l.toNat p.toNat) s).node = .running := by rw [readRecord_node, hr]
  unfold generalRecallEffect
  exact ((keeps_readRecord _ s).trans (keeps_pass _ hnode (keepsCore_setGeneral hl ⟨hp1, hp2⟩) (drawn_setGeneral _ _ _)
    (by simp [hr]))).trans (keeps_startRule _)

theorem keeps_divisionalRecall {tag : Tag} {p l : Byte} (hr : s.node = .running) :
    Keeps s (divisionalRecallEffect tag p l s) := by
  have hnode : (readRecord (divisionalIndex l.toNat p.toNat) s).node = .running := by rw [readRecord_node, hr]
  unfold divisionalRecallEffect
  exact (((keeps_readRecord _ s).trans (keeps_pass _ hnode (keepsCore_setDivisional _ _) (drawn_setDivisional _ _)
    (by simp [hr]))).trans (keeps_checkGeneral (live_of_running (by simp [hr])))).trans (keeps_startRule _)

theorem keeps_generalCancel (hr : s.node = .running) : Keeps s (generalCancelEffect s) := by
  unfold generalCancelEffect retireAll
  exact (keeps_pass _ hr ((keepsCore_clearReferences _).trans (keepsCore_tuttiGoesOff _)) (drawn_cancelled _)
    (by simp [hr])).trans (keeps_startRule _)

theorem keepsCore_noDivisional (s : State) :
    KeepsCore s { s with resolver := { s.resolver with divisional := none } } := {}

theorem drawn_noDivisional (s : State) :
    s.DrawnHolds → State.DrawnHolds { s with resolver := { s.resolver with divisional := none } } := fun ⟨h⟩ => ⟨h⟩

theorem keeps_divisionalCancel (hr : s.node = .running) : Keeps s (divisionalCancelEffect s) := by
  unfold divisionalCancelEffect retireAll
  exact ((keeps_pass _ hr (keepsCore_noDivisional _) (drawn_noDivisional _) (by simp [hr])).trans
    (keeps_checkGeneral (live_of_running (by simp [hr])))).trans (keeps_startRule _)

/-- A record of a combination is in the store (R32). -/
theorem generalIndex_le {p l : Byte} (hp : pistonInRange .general p l = true) :
    generalIndex l.toNat p.toNat ≤ lastIndex := by
  obtain ⟨hp1, hp2, hl⟩ := pistonInRange_general.1 hp
  unfold generalIndex lastIndex
  omega

theorem divisionalIndex_le {p l : Byte} (hp : pistonInRange .divisional p l = true) :
    divisionalIndex l.toNat p.toNat ≤ lastIndex := by
  obtain ⟨hp1, hp2, hl⟩ := pistonInRange_divisional.1 hp
  unfold divisionalIndex lastIndex
  omega

theorem keeps_generalCapture {tag : Tag} {p l : Byte} (hr : s.node = .running) (hp : pistonInRange .general p l = true) :
    Keeps s (generalCaptureEffect tag p l s) := by
  obtain ⟨hp1, hp2, hl⟩ := pistonInRange_general.1 hp
  unfold generalCaptureEffect
  refine ((keeps_offerWrite (fun _ => generalIndex_le hp) _ _).trans (keeps_references ?_
    (keepsCore_setGeneral hl ⟨hp1, hp2⟩) (drawn_setGeneral _ _ _) id)).trans (keeps_blinkPiston _ _ ?_) <;> simp [hr]

theorem keeps_divisionalCapture {tag : Tag} {p l : Byte} (hr : s.node = .running)
    (hp : pistonInRange .divisional p l = true) : Keeps s (divisionalCaptureEffect tag p l s) := by
  unfold divisionalCaptureEffect
  refine ((keeps_offerWrite (fun _ => divisionalIndex_le hp) _ _).trans (keeps_references ?_
    (keepsCore_setDivisional _ _) (drawn_setDivisional _ _) id)).trans (keeps_blinkPiston _ _ ?_) <;> simp [hr]

/-- Another division's frame only sets or clears a lamp reference (R87). -/
theorem keeps_lampReference (d : Division) (r : Option LampReference) (hr : s.node = .running) :
    Keeps s (refreshLamps (setLampReference d r s)) := by
  refine keeps_references (by rw [setLampReference_node, hr]) (keepsCore_setLampReference d r s) ?_ ?_ <;>
    unfold setLampReference <;> split
  · exact fun ⟨h⟩ => ⟨h⟩
  · exact id
  · exact id
  · exact id

theorem keeps_deviate (scope division address serial : Byte) (hr : s.node = .running) :
    Keeps s (deviateEffect scope division address serial s) := by
  unfold deviateEffect
  split
  · exact keeps_references hr {} (fun ⟨h⟩ => ⟨h⟩) id
  · split
    · split
      · exact keeps_references hr {} (fun ⟨h⟩ => ⟨h⟩) id
      · exact keeps_lampReference _ _ hr
    · exact .refl s

theorem keeps_level (l : Byte) (s : State) : Keeps s { s with resolver := { s.resolver with level := clampLevel l } } where
  level := fun ⟨_, h⟩ => ⟨Nat.min_le_right _ _, h⟩

/-! ### SHOE and the silence timer -/

theorem keepsCore_stage {program stage : Nat} (hp : program ≤ 3) (hk : stage ≤ 31) {addition : StopSet}
    (ha : stage = 0 → addition = StopSet.empty) (lamp : Bool) (s : State) :
    KeepsCore s { s with resolver := { s.resolver with
      program := program, stage := stage, crescendoLamp := lamp, addition := addition } } where
  sets := fun ⟨h1, _, h3⟩ => ⟨h1, ha, h3⟩
  level := fun ⟨h1, h2, h3, _, _, h6, h7⟩ => ⟨h1, h2, h3, hp, hk, h6, h7⟩

theorem keepsCore_applyStage {program stage : Nat} (hp : program ≤ 3) (hk : stage ≤ 31) (s : State) :
    KeepsCore s (applyStage program stage s) := by
  unfold applyStage
  dsimp only
  split
  · exact keepsCore_stage hp hk (fun _ => rfl) _ s
  · rename_i hne
    have hload (u : State) (hu : u.resolver.stage ≠ 0) : KeepsCore u (loadStage program stage u) := by
      unfold loadStage
      generalize stageView u.config.stops _ = addition
      exact { sets := fun ⟨h1, _, h3⟩ => ⟨h1, fun h => absurd h hu, h3⟩ }
    exact ((keepsCore_stage hp hk (fun h => absurd h hne) _ s).trans (keeps_readRecord _ _).toKeepsCore).trans
      (hload _ (by rw [readRecord_resolver]; exact hne))

/-- What a SHOE sets in the resolver before the silence timer: program, stage, addition set and lamp (R131). -/
theorem applyStage_resolver (program stage : Nat) (s : State) :
    (applyStage program stage s).resolver = { s.resolver with
      program := program
      stage := stage
      crescendoLamp := decide (0 < stage)
      addition := if stage = 0 then StopSet.empty
        else stageView s.config.stops (s.store.answer (stageIndex program stage)) } := by
  unfold applyStage
  dsimp only
  split
  · rfl
  · simp only [loadStage, readRecord_resolver, readRecord_config, readRecord_store]

/-- The image reads the drawn set of the resolver and nothing else of it. -/
theorem drawnHolds_resolver {r : Resolver} (h : r.drawn = s.resolver.drawn) (hs : s.DrawnHolds) :
    State.DrawnHolds { s with resolver := r } :=
  drawnHolds_congr (s := s) rfl rfl h (fun _ => rfl) (fun _ _ => rfl) (fun _ _ => rfl) hs

/-- The lamps of a node read the references of the resolver and nothing else of it. -/
theorem lampsHold_resolver {r : Resolver} (hg : r.general = s.resolver.general) (hd : r.divisional = s.resolver.divisional)
    (hr : r.lampRefs = s.resolver.lampRefs) (hs : s.LampsHold) : State.LampsHold { s with resolver := r } :=
  lampsHold_congr (s := s) rfl rfl rfl rfl (by rw [hg]) (by rw [hd]) hr hs

/-- The silence timer is fed and a SILENT state ends, with its flag (R133, R135). -/
theorem keepsCore_feedSilence (hr : s.node = .running) : KeepsCore s (feedSilence s) := by
  have hfeed (f : Faults) (hf : s.CausesHold → f.stuckCount = s.faults.stuckCount ∧
      f.has .stuck = s.faults.has .stuck ∧ f.has .shoeSilent = false ∧ f.has .config = s.faults.has .config) :
      KeepsCore s { s with
        resolver := { s.resolver with silence := .fed 5 500 }, faults := f } := {
    fault := fun _ h => by
      obtain ⟨hcount, hstuck, hsilent, hconfig⟩ := hf h
      obtain ⟨h⟩ := h
      refine ⟨?_⟩
      simp only [State.faultLaw, hr] at h ⊢
      obtain ⟨h1, h2, -, h4⟩ := h
      exact ⟨by rw [hcount, h1], by rw [hstuck, h2, hcount], hsilent, by rw [hconfig, h4]⟩ }
  unfold feedSilence
  dsimp only
  split
  · exact hfeed (s.faults.withoutFlag .shoeSilent) fun _ => ⟨rfl, by simp, by simp, by simp⟩
  · rename_i hsilence
    refine hfeed s.faults fun ⟨h⟩ => ⟨rfl, rfl, ?_, rfl⟩
    simp only [State.faultLaw, hr] at h
    obtain ⟨-, -, h3, -⟩ := h
    exact h3.trans (beq_eq_false_iff_ne.2 hsilence)

theorem feedSilence_resolver (s : State) :
    (feedSilence s).resolver = { s.resolver with silence := .fed 5 500 } := by
  unfold feedSilence
  dsimp only
  split <;> rfl

theorem keeps_hostTakesShoe (a : Address) (program stage : Nat) (s : State) :
    Keeps s (hostTakesShoe a program stage s) := by
  unfold hostTakesShoe
  split
  · exact .refl s
  · split
    · exact keeps_setFlag rfl s
    · split
      · rename_i hactive
        dsimp only
        split
        · exact keeps_refreshLoaded s
        · exact (keeps_refreshLoaded s).trans (keeps_offerShoe (live_of_running (activeShoe_isSome hactive).1))
      · exact .refl s

theorem keeps_shoeEffect {a : Address} {program stage : Nat} (hp : program ≤ 3) (hk : stage ≤ 31)
    (hr : s.node = .running) : Keeps s (shoeEffect a program stage s) := by
  have hr' : (applyStage program stage s).node = .running := by rw [applyStage_node, hr]
  have hcore := (keepsCore_applyStage hp hk s).trans (keepsCore_feedSilence hr')
  have hres : (feedSilence (applyStage program stage s)).resolver.drawn = s.resolver.drawn ∧
      (feedSilence (applyStage program stage s)).resolver.general = s.resolver.general ∧
      (feedSilence (applyStage program stage s)).resolver.divisional = s.resolver.divisional ∧
      (feedSilence (applyStage program stage s)).resolver.lampRefs = s.resolver.lampRefs := by
    rw [feedSilence_resolver, applyStage_resolver]
    exact ⟨rfl, rfl, rfl, rfl⟩
  obtain ⟨hdrawn, hg, hd, hl⟩ := hres
  unfold shoeEffect
  refine (hcore.refreshSpeaking (fun _ => ?_) ?_).trans (keeps_hostTakesShoe _ _ _ _)
  · exact drawnHolds_congr (by simp) (by simp) hdrawn (fun n => by simp) (fun _ n => by simp) (fun _ n => by simp)
  · exact lampsHold_congr (by simp) (by simp) (by simp) (by simp) (by rw [hg]) (by rw [hd]) hl

/-- The silence period lowers the count (R133). -/
theorem keeps_silencePeriod {k left j : Nat} (hk : s.resolver.silence = .fed k left) :
    Keeps s { s with resolver := { s.resolver with silence := .fed j 500 } } where
  fault _ h := causesHold_congr (s := s) rfl rfl (by simp [hk]) rfl (.refl _) (fun _ => rfl) h

/-- The silence state becomes SILENT and its flag is set (R134). -/
theorem keeps_expireSilence (hr : s.node = .running) : Keeps s (expireSilence s) := by
  have hl := live_of_running hr
  have hoffers := offers_setFlag .shoeSilent { s with resolver := { s.resolver with silence := .silent } }
  obtain ⟨l, f, hframe⟩ : ∃ l f, expireSilence s =
      { s with resolver := { s.resolver with silence := .silent }, link := l, faults := f } := ⟨_, _, hoffers.frame⟩
  have hset : (expireSilence s).faults.has .shoeSilent = true := has_setFlag hl
  have hstuck : (expireSilence s).faults.has .stuck = s.faults.has .stuck :=
    setFlag_has_other (f := .shoeSilent) (by decide) (by decide) _
  have hconfig : (expireSilence s).faults.has .config = s.faults.has .config :=
    setFlag_has_other (f := .shoeSilent) (by decide) (by decide) _
  have hcount : (expireSilence s).faults.stuckCount = s.faults.stuckCount := hoffers.count
  have hqueue : s.queueLaw → (expireSilence s).queueLaw := hoffers.queue
  have hdivision : s.shoeDivisionLaw → (expireSilence s).shoeDivisionLaw := hoffers.division
  rw [hframe] at hset hstuck hconfig hcount hqueue hdivision ⊢
  exact {
    queue := hqueue, division := hdivision
    fault := fun _ ⟨h⟩ => ⟨by
      simp only [State.faultLaw, hr] at h ⊢
      obtain ⟨h1, h2, h3, h4⟩ := h
      exact ⟨hcount.trans h1, by rw [hstuck, h2, hcount], hset, hconfig.trans h4⟩⟩ }

/-! ### TUTTI and the reload of the sets -/

theorem stopsWith_disjoint (entries : Stops Entry) (n : StopNo) :
    ((stopsWith .draw entries)[n] && (stopsWith .retire entries)[n]) = false := by
  simp only [stopsWith, getElem_table_fin]
  cases entries[n] <;> rfl

/-- Tutti's sets taken from a record's entries, and the speaking set that follows (R137). -/
theorem keeps_tuttiSets {entries : Stops Entry} {tutti lamp : Bool} (h : tutti = true) (s : State) :
    Keeps s (refreshSpeaking { s with resolver := { s.resolver with
      tuttiAdd := stopsWith .draw entries, tuttiSilence := stopsWith .retire entries, tutti := tutti, tuttiLamp := lamp } }) := by
  have hdisjoint := stopsWith_disjoint entries
  generalize stopsWith .draw entries = add at *
  generalize stopsWith .retire entries = silence at *
  exact KeepsCore.refreshSpeaking { sets := fun ⟨_, h2, _⟩ => ⟨fun h' => by simp [h] at h', h2, hdisjoint⟩ }
    (fun _ => drawnHolds_resolver rfl) (lampsHold_resolver rfl rfl rfl)

theorem keeps_tuttiLevel {level : Nat} (hl : level ≤ 127) (s : State) :
    Keeps s { s with resolver := { s.resolver with tuttiLevel := level } } where
  level := fun ⟨h1, _, h3⟩ => ⟨h1, hl, h3⟩

theorem keeps_tuttiOn {level : Nat} (hl : level ≤ 127) (s : State) : Keeps s (tuttiOnEffect level s) := by
  unfold tuttiOnEffect loadTutti
  have hread := (keeps_tuttiLevel hl s).trans (keeps_readRecord (tuttiIndex level) _)
  dsimp only
  generalize readRecord (tuttiIndex level) { s with resolver := { s.resolver with tuttiLevel := level } } = t at hread ⊢
  exact hread.trans (keeps_tuttiSets (entries := t.combination (tuttiIndex level)) rfl t)

theorem keeps_tuttiOff (s : State) : Keeps s (refreshSpeaking (tuttiGoesOff s)) :=
  KeepsCore.refreshSpeaking (keepsCore_tuttiGoesOff s) (fun _ => drawnHolds_resolver rfl) (lampsHold_resolver rfl rfl rfl)

/-- An admitted service write reloads the set its record feeds (R142). -/
theorem keeps_reloadSets (i : Nat) (s : State) : Keeps s (reloadSets i s) := by
  unfold reloadSets
  split
  · rename_i h
    exact keeps_tuttiSets (lamp := s.resolver.tuttiLamp) h.1 s
  · split
    · rename_i h
      unfold loadStage
      generalize stageView _ _ = addition
      refine KeepsCore.refreshSpeaking { sets := fun ⟨h1, _, h3⟩ => ⟨h1, fun h' => ?_, h3⟩ }
        (fun _ => drawnHolds_resolver rfl) (lampsHold_resolver rfl rfl rfl)
      exact absurd h' h.1.ne'
    · exact .refl s

end

end Sys2Proof.Machine
end

section
/-! PROOF. Service access keeps the laws: the service frames, the parts and replies, clear requests (R196, R203 to
R217). -/

namespace Sys2Proof.Machine

section
variable {s t : State}

theorem clampIndex_le (high low : Byte) : clampIndex high low ≤ lastIndex := Nat.min_le_right _ _

theorem nextIndex_le (i : Nat) : nextIndex i ≤ lastIndex := by
  unfold nextIndex
  split <;> omega

/-- Service access changes within its ranges. -/
theorem keeps_service {sv : Service} (law : s.serviceLaw → State.serviceLaw { s with service := sv }) :
    Keeps s { s with service := sv } where
  service := law

theorem serviceLaw_mode (on : Bool) (h : s.serviceLaw) :
    State.serviceLaw { s with service := { s.service with mode := on } } := h

theorem serviceLaw_ended (h : s.serviceLaw) : State.serviceLaw { s with service := s.service.ended } := by
  obtain ⟨h1, -, h3, -, -, -, -, -⟩ := h
  exact ⟨h1, Nat.zero_le 2, h3, Nat.zero_le 2, rfl, by simp [Service.ended], Nat.zero_le 16, nofun⟩

theorem serviceLaw_pointRead {i : Nat} (hi : i ≤ lastIndex) (h : s.serviceLaw) :
    State.serviceLaw { s with service := { s.service with readPointer := ⟨i, 0⟩, readCopy := none } } := by
  obtain ⟨-, -, h3, h4, h5, -, h7, h8⟩ := h
  exact ⟨hi, Nat.zero_le 2, h3, h4, h5, by simp, h7, h8⟩

theorem serviceLaw_pointWrite {i : Nat} (hi : s.serviceLaw → i ≤ lastIndex) (h : s.serviceLaw) :
    State.serviceLaw { s with service := { s.service with writePointer := ⟨i, 0⟩, received := [] } } := by
  have hi := hi h
  obtain ⟨h1, h2, -, -, -, h6, h7, h8⟩ := h
  exact ⟨h1, h2, hi, Nat.zero_le 2, rfl, h6, h7, h8⟩

theorem serviceLaw_read (count : Byte) (h : s.serviceLaw) :
    State.serviceLaw { s with service := { s.service with
      outstanding := clampCount count
      readCopy := none
      readPointer := if s.service.readCopy.isSome then ⟨s.service.readPointer.index, 0⟩ else s.service.readPointer } } := by
  obtain ⟨h1, h2, h3, h4, h5, h6, -, h8⟩ := h
  have hcount : clampCount count ≤ 16 := by unfold clampCount; omega
  cases hc : s.service.readCopy with
  | none => exact ⟨h1, h2, h3, h4, h5, by simpa [hc] using h6, hcount, h8⟩
  | some b => exact ⟨h1, Nat.zero_le 2, h3, h4, h5, by simp, hcount, h8⟩

theorem keeps_takePart (data : List Byte) (s : State) : Keeps s (takePart data s) := by
  unfold takePart
  dsimp only
  split
  · rename_i hlen
    split
    · rename_i hpart
      refine keeps_service fun ⟨h1, h2, h3, h4, h5, h6, h7, h8⟩ => ⟨h1, h2, h3, by dsimp only; omega, ?_, h6, h7, h8⟩
      have : partLength s.service.writePointer.part = 6 := by
        rcases (by omega : s.service.writePointer.part = 0 ∨ s.service.writePointer.part = 1) with h | h <;> rw [h] <;> rfl
      rw [this] at hlen
      simp only [List.length_append, h5, hlen]
      omega
    · unfold recordComplete
      dsimp only
      have hwrite := keeps_offerWrite (s := s) (i := s.service.writePointer.index) (fun h => h.2.2.1)
        (bytesOfParts (s.service.received ++ data)) .service
      generalize offerWrite _ _ _ s = w at hwrite
      have hnext := hwrite.trans (keeps_service (serviceLaw_pointWrite fun _ => nextIndex_le s.service.writePointer.index))
      split
      · exact hnext.trans (keeps_reloadSets _ _)
      · exact hnext
  · exact keeps_service (serviceLaw_pointWrite fun h => h.2.2.1)

theorem keeps_forTarget {c : Instr} {target : Byte} {act : State → State}
    (h : ∀ t, t.live = true → Keeps t (act t)) (s : State) :
    ∃ t, forTarget c target act s = .next t ∧ Keeps s t := by
  refine ⟨_, rfl, keeps_takeFrame (fun own t hl => ?_) s⟩
  split
  · exact h t hl
  · exact .refl t

theorem keeps_whenObeyed {act : State → State} (h : Keeps s (act s)) : Keeps s (whenObeyed act s) := by
  unfold whenObeyed
  split
  · exact h
  · exact .refl s

/-! ### Clear requests -/

theorem lastingFlags_getLsbD (s : State) (f : Flag) :
    s.lastingFlags.getLsbD f.bit.val = (f.follows && s.causeLasts f) := by
  have hite (b : Bool) (g : Flag) :
      (if b = true then Flag.mask g else 0#10).getLsbD f.bit.val = (b && decide (f = g)) := by
    cases b
    · simp
    · rw [if_pos rfl, Flag.getLsbD_mask, Bool.true_and]
  simp only [State.lastingFlags, BitVec.getLsbD_or, hite]
  cases f <;> simp [Flag.follows]

/-- After a clear request a flag is set where its cause lasts, or where it was set and the mask does not name it
(R196). -/
theorem clearRequest_flags (mask : BitVec 10) (s : State) (f : Flag) :
    Faults.has { s.faults with flags := (s.faults.flags &&& ~~~mask) ||| s.lastingFlags } f =
      (s.faults.has f && !mask.getLsbD f.bit.val || f.follows && s.causeLasts f) := by
  have hbit : f.bit.val < 10 := f.bit.isLt
  simp only [Faults.has, BitVec.getLsbD_or, BitVec.getLsbD_and, BitVec.getLsbD_not, lastingFlags_getLsbD, hbit,
    decide_true, Bool.true_and]

/-- A flag that is set exactly while its cause lasts stays so (R194, R196). -/
theorem clearRequest_follows {f : Flag} {mask : BitVec 10} (hf : f.follows = true) (h : s.faults.has f = s.causeLasts f) :
    Faults.has { s.faults with flags := (s.faults.flags &&& ~~~mask) ||| s.lastingFlags } f = s.faults.has f := by
  rw [clearRequest_flags, hf, ← h]
  cases s.faults.has f <;> simp

theorem keeps_clearRequest (mask : BitVec 10) (hl : s.live = true) : Keeps s (clearRequest mask s) := by
  unfold clearRequest
  refine Keeps.trans ?_ (keeps_noteCall hl)
  refine {
    fault := fun _ ⟨h⟩ => ?_ }
  refine causesHold_congr (s := s) rfl rfl ⟨.rfl, id⟩ rfl (.of_has rfl fun f hf => clearRequest_follows hf ?_)
    (fun h' => by simp [hl] at h') ⟨h⟩
  simp only [State.faultLaw] at h
  split at h
  · rename_i hr
    obtain ⟨-, h2, h3, h4⟩ := h
    cases f <;> simp [Flag.follows] at hf
    · exact h2
    · exact h3
    · exact h4.trans (by simp only [State.causeLasts, hr]; rfl)
  · rename_i hh
    obtain ⟨h1, -, h3, h4, h5, h6⟩ := h
    cases f <;> simp [Flag.follows] at hf
    · simpa [State.causeLasts, h1] using h3
    · exact h5.trans (by simp only [State.causeLasts, h4]; rfl)
    · simpa [State.causeLasts, hh] using h6
  · simp [State.live, *] at hl
  · simp [State.live, *] at hl
  · simp [State.live, *] at hl

/-! ### Parts and replies -/

/-- An offer is made in whatever state service access is: the link and the fault set do not read it. -/
theorem Offers.ofService {sv : Service} (h : Offers { s with service := sv } t) (causes : s.faults.SameCauses t.faults)
    {sv' : Service} (law : s.serviceLaw → State.serviceLaw { s with service := sv' }) :
    Keeps s { t with service := sv' } := by
  obtain ⟨frame, queue, division, count, flags⟩ := h
  generalize t.link = l at frame
  generalize t.faults = f at frame causes flags
  subst frame
  exact {
    queue := queue, division := division, service := law
    fault := fun hq h => causesHold_congr (s := s) rfl rfl ⟨.rfl, id⟩ rfl causes (flags hq) h }

/-- Service access after a part has been admitted (R212). -/
def Service.partOffered (sv : Service) : Service :=
  if sv.readPointer.part < 2 then { sv with readPointer := ⟨sv.readPointer.index, sv.readPointer.part + 1⟩ }
  else { sv with
    readPointer := ⟨nextIndex sv.readPointer.index, 0⟩, readCopy := none, outstanding := sv.outstanding - 1 }

/-- The frame of the next part (R207, R212). -/
abbrev State.partBody (s : State) (bytes : EntryBytes) : Body :=
  .storeData (BitVec.ofNat 8 s.service.readPointer.part) (recordPart bytes s.service.readPointer.part)

/-- A part offered to a free place is admitted and counted (R212). -/
theorem offerPart_of_place {bytes : EntryBytes} (h : hasPlace s.link.queue = true) :
    offerPart bytes s =
      { (offer (s.partBody bytes) s).1 with service := s.service.partOffered } := by
  have hoffer := offer_plain (b := s.partBody bytes) rfl rfl s
  rw [if_pos h] at hoffer
  unfold offerPart
  dsimp only
  rw [hoffer]
  dsimp only
  have hservice := joinQueue_service (s.partBody bytes) s
  rw [hservice]
  unfold Service.partOffered
  split <;> rfl

theorem serviceLaw_partOffered {copy : Option EntryBytes} (h : s.serviceLaw) (hc : copy ≠ none) :
    State.serviceLaw { s with service := Service.partOffered { s.service with readCopy := copy } } := by
  obtain ⟨h1, h2, h3, h4, h5, h6, h7, h8⟩ := h
  unfold Service.partOffered
  dsimp only
  split
  · rename_i hp
    exact ⟨h1, by dsimp only; omega, h3, h4, h5, by simp [hc], h7, h8⟩
  · exact ⟨nextIndex_le _, Nat.zero_le 2, h3, h4, h5, by simp, by dsimp only; omega, h8⟩

theorem keeps_offerPart {bytes : EntryBytes} {copy : Option EntryBytes} (hl : s.live = true)
    (hp : hasPlace s.link.queue = true) (hc : copy ≠ none) :
    Keeps s (offerPart bytes { s with service := { s.service with readCopy := copy } }) := by
  rw [offerPart_of_place (s := { s with service := { s.service with readCopy := copy } }) hp]
  have ho := offers_offer (s := { s with service := { s.service with readCopy := copy } })
    (b := State.partBody { s with service := { s.service with readCopy := copy } } bytes) hl rfl rfl
  exact ho.ofService (.of_has ho.count fun _ hf => offer_has (Flag.ne_txOverflow_of_follows hf) _ _)
    fun h => serviceLaw_partOffered h hc

theorem keeps_offerNextPart (hl : s.live = true) (hp : hasPlace s.link.queue = true) : Keeps s (offerNextPart s) := by
  unfold offerNextPart
  dsimp only
  split
  · have hread := keeps_readRecord s.service.readPointer.index s
    have hl' : (readRecord s.service.readPointer.index s).live = true := (live_congr (readRecord_node _ s)).trans hl
    split
    · exact hread.trans (keeps_offerPart hl' ‹_› nofun)
    · exact hread
  · rename_i bytes hcopy _
    have h := keeps_offerPart (s := s) (bytes := bytes) (copy := s.service.readCopy) hl hp (by rw [hcopy]; nofun)
    exact h
  · exact .refl s

theorem keeps_offerParts (places : Nat) (s : State) : Keeps s (offerParts places s) := by
  induction places generalizing s with
  | zero => exact .refl s
  | succ places ih =>
    unfold offerParts
    split
    · rename_i h
      simp only [State.partMayBeOffered, State.replyMayBeOffered, Bool.and_eq_true] at h
      exact (keeps_offerNextPart h.1.1.1.1 h.1.1.1.2).trans (ih _)
    · exact .refl s

end

end Sys2Proof.Machine
end

section
/-! PROOF. Starts, the loss of the supply and the clock keep the laws (R48, R81, R223 to R228). -/

namespace Sys2Proof.Machine

section
variable {s t v : State}

/-! ### The values a start gives -/

theorem clampTo_range {low high : Nat} (h : low ≤ high) (n : Nat) : low ≤ clampTo low high n ∧ clampTo low high n ≤ high := by
  unfold clampTo
  omega

theorem configAtStart_ranges (straps : Straps) (b : ConfigBlock) :
    (configAtStart straps b).budget ≤ 16 ∧ 1 ≤ (configAtStart straps b).sequence ∧
      (configAtStart straps b).sequence ≤ 48 := by
  unfold configAtStart
  split
  · decide
  · exact ⟨(clampTo_range (by omega) _).2, (clampTo_range (by omega) _).1, (clampTo_range (by omega) _).2⟩

theorem initial_motion (n : StopNo) : Sequencer.initial.motions[n] = ⟨.atRest, false⟩ := by
  simp [Sequencer.initial]

theorem initial_wf (c : NodeConfig) : Sequencer.initial.Wf c :=
  Sequencer.wf_of_rest rfl fun n => by rw [initial_motion]

theorem initial_stuckCount : Sequencer.initial.stuckCount = 0 :=
  stuckCount_eq_zero.2 fun n => by rw [initial_motion]

theorem shoeLaw_initial (s : State) : State.shoeLaw { s with shoe := Shoe.initial } :=
  ⟨nofun, nofun, nofun, Nat.zero_le 3, nofun, fun _ _ => ⟨Nat.zero_le _, Nat.zero_le _, nofun⟩, nofun⟩

theorem setsLaw_of_empty (ha : s.resolver.addition = StopSet.empty) (ht : s.resolver.tuttiAdd = StopSet.empty)
    (hs : s.resolver.tuttiSilence = StopSet.empty) : s.setsLaw :=
  ⟨fun _ => ⟨ht, hs⟩, fun _ => ha, fun n => by rw [ht, hs, getElem_empty]; rfl⟩

/-- A node that does not play has no speaking set to keep. -/
theorem speakingLaw_of_not_live (hl : s.live = false) (h : s.setsLaw) : s.speakingLaw :=
  speakingLaw_iff.2 ⟨fun hl' => by simp [hl] at hl', h⟩

theorem scannerLaw_started (sc : Scanner) : State.scannerLaw { s with scanner := sc.started } := by
  refine ⟨fun n => ?_, fun n => ?_, fun n => ?_⟩ <;>
    simp [Scanner.started, Debounce.lawful, Debounce.started]

/-- Step 1 of a start (R224). -/
theorem keeps_startCut (cause : StartCause) (s : State) : Keeps s (startCut cause s) where
  queue _ := State.queueLaw_iff.2 (.nil 0)
  division _ := ⟨nofun, fun _ => rfl⟩
  coil h := State.coilLaw_iff.2 ⟨initial_wf _, (State.coilLaw_iff.1 h).2.1, fun _ => rfl⟩
  sets _ := setsLaw_of_empty rfl rfl rfl
  fault _ _ := ⟨⟨initial_stuckCount, rfl⟩⟩
  level := fun ⟨h1, _, h3, _, _, h6, h7⟩ => ⟨h1, Nat.zero_le _, h3, Nat.zero_le _, Nat.zero_le _, h6, h7⟩
  shoe _ := shoeLaw_initial _
  drawn _ _ := ⟨fun n => by rw [startCut, initial_motion]⟩
  speaking _ := speakingLaw_of_not_live rfl (setsLaw_of_empty rfl rfl rfl)
  lamp _ := ⟨rfl⟩

/-- Steps 3 to 6 of a start that has been cut (R219, R224). -/
theorem keeps_startLoad (hn : s.node = .starting .lineHeld ∨ s.node = .starting .storeFinishing) :
    Keeps s (startLoad s) := by
  have hl : s.live = false := by rcases hn with h | h <;> simp [State.live, h]
  have hrun : s.node ≠ .running := by rcases hn with h | h <;> simp [h]
  unfold startLoad
  dsimp only
  have hranges := configAtStart_ranges s.pins.strapReading s.block
  generalize configAtStart s.pins.strapReading s.block = config at hranges
  generalize configFault s.pins.strapReading s.block = fault
  generalize s.pins.strapReading = straps
  generalize s.pins.afterReading = pins
  exact {
    writes := fun _ _ h => h
    division := fun h => ⟨by rw [h.2 hl]; nofun, fun _ => h.2 hl⟩
    coil := fun h => by
      obtain ⟨hwf, -, hmoves⟩ := State.coilLaw_iff.1 h
      exact State.coilLaw_iff.2 ⟨Sequencer.wf_of_rest (hmoves hrun) (hwf.rests (hmoves hrun)), hranges.1, fun _ => hmoves hrun⟩
    sets := fun _ => setsLaw_of_empty rfl rfl rfl
    fault := fun _ ⟨h⟩ => ⟨by
      have hcount : s.sequencer.stuckCount = 0 := by
        rcases hn with hn | hn <;> simp only [State.faultLaw, hn] at h <;> exact h.1
      exact ⟨rfl, rfl, hcount, rfl, rfl⟩⟩
    level := fun _ => ⟨Nat.zero_le _, Nat.zero_le _, nofun, Nat.zero_le _, Nat.zero_le _, hranges.2⟩
    service := fun _ => ⟨Nat.zero_le _, Nat.zero_le _, Nat.zero_le _, Nat.zero_le _, rfl, ⟨fun _ => rfl, fun _ => rfl⟩, Nat.zero_le _, nofun⟩
    scanner := fun _ => scannerLaw_started (s := s) s.scanner
    shoe := fun _ => ⟨nofun, nofun, nofun, Nat.zero_le 3, nofun, fun _ _ => ⟨Nat.zero_le _, Nat.zero_le _, nofun⟩, nofun⟩
    drawn := fun _ ⟨h⟩ => ⟨by
      rcases hn with hn | hn <;> simp only [State.drawnLaw, hn] at h <;> exact h⟩
    speaking := fun _ => speakingLaw_of_not_live rfl (setsLaw_of_empty rfl rfl rfl)
    lamp := fun ⟨h⟩ => ⟨by
      have hdark : s.outputs.lamps = Vector.replicate 16 Lamp.dark := by
        rcases hn with hn | hn <;> simp only [State.lampLaw, hn] at h <;> exact h
      exact ⟨hdark, rfl, rfl, rfl⟩⟩ }

theorem Store.ListWf.empty {st : Store} (hs : st.stage = none) : Store.ListWf { st with writes := [] } :=
  ⟨Nat.zero_le _, by simp [Store.waiting], fun h => absurd hs h, nofun⟩

/-- Only the write in progress is left in the list (R48). -/
theorem Store.ListWf.headOnly {st : Store} (hs : st.stage ≠ none) (h : st.ListWf) :
    Store.ListWf { st with writes := st.writes.take 1 } := by
  have hsome := Option.isSome_iff_ne_none.2 hs
  obtain ⟨hne, hwritten⟩ := h.head hs
  refine ⟨(List.length_take_le' 1 _).trans h.length, ?_, fun _ => ?_, fun e he => h.index e (List.mem_of_mem_take he)⟩
  · simp [Store.waiting, hsome]
  · cases hw : st.writes with
    | nil => exact absurd hw hne
    | cons e l =>
      rw [hw] at hwritten
      exact ⟨by simp, by simpa using hwritten⟩

/-- Step 2 of a start that has been cut (R48, R224). -/
theorem keeps_startStore (hn : s.node = .starting .lineHeld) : Keeps s (startStore s) := by
  unfold startStore
  split
  · rename_i hs
    exact {
      writes := fun _ _ h => State.writeListLaw_iff.2
        ((State.writeListLaw_iff.1 h).headOnly (Option.isSome_iff_ne_none.1 hs))
      coil := fun h => by
        obtain ⟨hwf, hb, hmoves⟩ := State.coilLaw_iff.1 h
        exact State.coilLaw_iff.2 ⟨hwf, hb, fun _ => hmoves (by simp [hn])⟩
      division := fun h => ⟨h.1, fun _ => h.2 (by simp [State.live, hn])⟩
      fault := fun _ ⟨h⟩ => ⟨by simpa only [State.faultLaw, hn] using h⟩
      drawn := fun _ ⟨h⟩ => ⟨by simpa only [State.drawnLaw, hn] using h⟩
      speaking := fun h => speakingLaw_of_not_live rfl h.2
      lamp := fun ⟨h⟩ => ⟨by simpa only [State.lampLaw, hn] using h⟩ }
  · rename_i hs
    have hnone : s.store.stage = none := by simpa using hs
    exact (keeps_store (s := s) (st := { s.store with writes := [] }) id fun _ _ _ => .empty hnone).trans
      (keeps_startLoad (.inl hn))

theorem keeps_beginStart (cause : StartCause) (s : State) : Keeps s (beginStart cause s) := by
  unfold beginStart
  split
  · exact keeps_startCut cause s
  · exact (keeps_startCut cause s).trans (keeps_startStore rfl)

theorem keeps_startGoesOn (s : State) : Keeps s (startGoesOn s) := by
  unfold startGoesOn
  split
  · rename_i h
    exact keeps_startLoad (.inr h.1)
  · exact .refl s

/-! ### The loss of the supply -/

theorem keeps_pins (p : Pins) (s : State) : Keeps s { s with pins := p } := {}

/-- What a supply loss leaves of the array and the block, before the volatile state is lost. -/
theorem torn_store (s : State) : s.memoryLaw → (tearBlock (tearRecord s)).store.array.wf = true := by
  intro h
  have hrecord : (tearRecord s).store.array.wf = true := by
    unfold tearRecord
    split
    · exact Memory.write_wf _ _ h
    · exact h
  unfold tearBlock
  split <;> exact hrecord

/-- A record cut short changes the store, and uses free values (R49). -/
theorem tearRecord_frame (s : State) : ∃ store freeNext,
    tearRecord s = { s with store := store, freeNext := freeNext } := by
  unfold tearRecord
  split
  · exact ⟨_, _, rfl⟩
  · exact ⟨s.store, s.freeNext, rfl⟩

/-- A CONFIG-WRITE cut short changes the block, and uses free values (R216). -/
theorem tearBlock_frame (s : State) : ∃ block blockWrite freeNext,
    tearBlock s = { s with block := block, blockWrite := blockWrite, freeNext := freeNext } := by
  unfold tearBlock
  split
  · exact ⟨s.block, s.blockWrite, s.freeNext, rfl⟩
  · exact ⟨_, _, _, rfl⟩

theorem torn_frame (s : State) : ∃ store block blockWrite freeNext, tearBlock (tearRecord s) = { s with
    store := store, block := block, blockWrite := blockWrite, freeNext := freeNext } := by
  obtain ⟨store, freeNext, hrecord⟩ := tearRecord_frame s
  obtain ⟨block, blockWrite, freeNext', hblock⟩ := tearBlock_frame (tearRecord s)
  exact ⟨store, block, blockWrite, freeNext', by rw [hblock, hrecord]⟩

theorem keeps_loseSupply (s : State) : Keeps s (loseSupply s) := by
  obtain ⟨st, block, blockWrite, freeNext, hframe⟩ := torn_frame s
  have hmemory := torn_store s
  unfold loseSupply
  dsimp only
  rw [hframe] at hmemory ⊢
  exact {
    memory := hmemory
    writes := fun _ _ _ => State.writeListLaw_iff.2 (Store.ListWf.empty (st := { st with stage := none }) rfl)
    queue := fun _ => State.queueLaw_iff.2 (.nil 0)
    division := fun _ => ⟨nofun, fun _ => rfl⟩
    coil := fun h => State.coilLaw_iff.2 ⟨initial_wf _, (State.coilLaw_iff.1 h).2.1, fun _ => rfl⟩
    sets := fun _ => setsLaw_of_empty rfl rfl rfl
    fault := fun _ _ => ⟨trivial⟩
    level := fun ⟨_, _, _, _, _, h⟩ => ⟨Nat.zero_le _, Nat.zero_le _, nofun, Nat.zero_le _, Nat.zero_le _, h⟩
    service := fun _ => ⟨Nat.zero_le _, Nat.zero_le _, Nat.zero_le _, Nat.zero_le _, rfl, ⟨fun _ => rfl, fun _ => rfl⟩, Nat.zero_le _, nofun⟩
    scanner := fun _ => scannerLaw_started (s := s) s.scanner
    shoe := fun _ => shoeLaw_initial _
    drawn := fun _ _ => ⟨trivial⟩
    speaking := fun _ => speakingLaw_of_not_live rfl (setsLaw_of_empty rfl rfl rfl)
    lamp := fun _ => ⟨rfl⟩ }

/-- The outputs of a node without its supply go off (R188). -/
theorem keeps_outputsOff (hn : s.node = .unpowered) : Keeps s { s with outputs := Outputs.initial } where
  lamp _ := ⟨by simp only [State.lampLaw, hn]; rfl⟩

/-! ### Entering RUNNING and HAND_ONLY -/

theorem loadDrawn_getElem (s : State) (n : StopNo) :
    (loadDrawn s).resolver.drawn[n] = (decide (n.val < s.config.stops) && (s.scanner.stops[n]).value) := by
  simp only [loadDrawn, getElem_table_fin, senses_getElem, State.serves]

theorem loadDrawn_eq (s : State) : ∃ d : StopSet,
    (∀ n : StopNo, d[n] = (decide (n.val < s.config.stops) && (s.scanner.stops[n]).value)) ∧
      loadDrawn s = { s with resolver := { s.resolver with drawn := d } } :=
  ⟨_, loadDrawn_getElem s, rfl⟩

/-- A node leaves STARTING for RUNNING with every stop at rest on its knob (R225). -/
theorem keeps_runsFrom (hn : s.node = .starting (.ready false)) :
    Keeps s (refreshSpeaking (loadDrawn { s with node := .running })) := by
  have hl : s.live = false := by simp [State.live, hn]
  have hrun : s.node ≠ .running := by simp [hn]
  obtain ⟨d, hd, e⟩ := loadDrawn_eq { s with node := .running }
  rw [e]
  refine KeepsCore.refreshSpeaking {
    division := fun h => ⟨by rw [h.2 hl]; nofun, fun _ => h.2 hl⟩
    coil := fun h => by
      obtain ⟨hwf, hb, -⟩ := State.coilLaw_iff.1 h
      exact State.coilLaw_iff.2 ⟨hwf, hb, fun h => absurd rfl h⟩
    fault := fun _ ⟨h⟩ => ⟨by
      simp only [State.faultLaw, hn] at h ⊢
      obtain ⟨h1, h2, h3, h4, h5⟩ := h
      have hflag (f : Flag) : s.faults.has f = false := by simp [Faults.has, h1]
      exact ⟨by rw [h2, h3], by rw [hflag, h2]; rfl, by rw [hflag, h4]; rfl, by rw [hflag, h5]; rfl⟩⟩ }
    (fun hc ⟨h⟩ => ⟨?_⟩) fun ⟨h⟩ => ⟨?_⟩
  · obtain ⟨hwf, -, hmoves⟩ := State.coilLaw_iff.1 hc
    simp only [State.drawnLaw, hn] at h ⊢
    intro n
    rw [hd, State.imageOf_eq]
    simp only [MotionRecord.image, h n, hwf.rests (hmoves hrun) n, Motion.direction, Bool.bne_false]
  · simp only [State.lampLaw, hn] at h ⊢
    obtain ⟨h1, h2, h3, h4⟩ := h
    intro i
    rw [State.steadyValue_eq, h1, h2, h3, h4]
    split <;> simp [lights, Lamp.dark]

/-- The shoe unit is set up, with what it offers or reports. -/
theorem Keeps.setUp {sh : Shoe} (h : Keeps s v) (ho : Offers { v with shoe := sh } t)
    (law : v.shoeLaw → State.shoeLaw { v with shoe := sh }) (fault : s.CausesHold → t.CausesHold) : Keeps s t := by
  obtain ⟨frame, queue, division, -, -⟩ := ho
  generalize t.link = l at frame
  generalize t.faults = f at frame
  subst frame
  exact {
    pending := h.pending, memory := h.memory, writes := h.writes, coil := h.coil, sets := h.sets, level := h.level
    service := h.service, scanner := h.scanner, speaking := h.speaking
    queue := fun hq => queue (h.queue hq), division := fun hq => division (h.division hq)
    shoe := fun hs => law (h.shoe hs), fault := fun _ => fault
    drawn := fun hc hd => ⟨(h.drawn hc hd).law⟩, lamp := fun hs => ⟨(h.lamp hs).law⟩ }

theorem refreshSpeaking_silence (s : State) : (refreshSpeaking s).resolver.silence = s.resolver.silence := by
  rw [refreshSpeaking_resolver]

/-- The shoe unit of a node that has just left a faultless start is set up (R105, R108, R225). -/
theorem keeps_enterShoe {x : Nat} (hx : x ≤ 1023) (hn : s.node = .starting (.ready false)) (hrun : Keeps s v)
    (hnode : v.node = .running) (hfaults : v.faults = s.faults) (hseq : v.sequencer = s.sequencer)
    (hsilence : v.resolver.silence = s.resolver.silence) : Keeps s (enterShoe x v) := by
  have hl := live_of_running hnode
  have hcauses {t : State} (node : t.node = v.node) (count : t.faults.stuckCount = v.faults.stuckCount)
      (sq : t.sequencer = v.sequencer) (si : t.resolver.silence = v.resolver.silence)
      (hstuck : t.faults.has .stuck = v.faults.has .stuck) (hsilent : t.faults.has .shoeSilent = v.faults.has .shoeSilent)
      (hconfig : s.CausesHold → t.faults.has .config = (t.shoe.unit == .off)) (h : s.CausesHold) : t.CausesHold := by
    refine ⟨?_⟩
    have hconfig := hconfig h
    obtain ⟨h⟩ := h
    simp only [State.faultLaw, hn, node, hnode] at h ⊢
    obtain ⟨h1, h2, h3, h4, -⟩ := h
    have hflag (f : Flag) : s.faults.has f = false := by simp [Faults.has, h1]
    refine ⟨?_, ?_, ?_, hconfig⟩
    · rw [count, sq, hfaults, hseq, h2, h3]
    · rw [hstuck, count, hfaults, hflag, h2]; rfl
    · rw [hsilent, si, hfaults, hsilence, hflag, h4]; rfl
  unfold enterShoe
  split
  · rename_i c _ hc
    split
    · have hmark : (firstSample c x { v with shoe := { v.shoe with unit := .active } }) =
          offerShoe { v with shoe := { v.shoe with
            unit := .active, filter := some (16 * x), reading := some x, position := some (c.normalized x),
            target := c.reachedStage (c.normalized x), displayed := c.reachedStage (c.normalized x),
            firstDone := true, follower := none, refresh := some 500 } } := by
        simp only [firstSample, filtered_mul]
      rw [hmark]
      have ho := offers_offerShoe (s := { v with shoe := { v.shoe with
            unit := .active, filter := some (16 * x), reading := some x, position := some (c.normalized x),
            target := c.reachedStage (c.normalized x), displayed := c.reachedStage (c.normalized x),
            firstDone := true, follower := none, refresh := some 500 } }) hl
      refine hrun.setUp ho (fun h => shoeLaw_firstSample (s := v) hx hc h)
        (hcauses (by simp) ho.count (by simp) (by simp)
          (offer_has (by decide) _ _) (offer_has (by decide) _ _) fun ⟨h⟩ => ?_)
      simp only [State.faultLaw, hn] at h
      have hflag : v.faults.has .config = false := by simp [Faults.has, hfaults, h.1]
      rw [offerShoe_shoe]
      exact (offer_has (g := .config) (by decide) _ _).trans hflag
    · refine hrun.setUp (sh := { v.shoe with unit := .off }) (offers_setFlag _ _) id
        (hcauses (by simp) (offers_setFlag _ _).count (by simp) (by simp)
          (setFlag_has_other (by decide) (by decide) _) (setFlag_has_other (by decide) (by decide) _) fun _ => ?_)
      rw [setFlag_shoe]
      exact has_setFlag hl
  · exact hrun

theorem enterShoe_node (x : Nat) (s : State) : (enterShoe x s).node = s.node := by
  unfold enterShoe firstSample
  split
  · split
    · rw [offerShoe_node]
    · rw [setFlag_node]
  · rfl

/-- Entry to RUNNING (R225). -/
theorem keeps_enterRunning {x : Nat} (hx : x ≤ 1023) (hn : s.node = .starting (.ready false)) :
    Keeps s (noteCall (enterShoe x (startShift (refreshSpeaking (loadDrawn { s with node := .running }))))) := by
  have hrun := (keeps_runsFrom hn).trans (keeps_startShift _)
  obtain ⟨u, hu, hfaults, hseq, hsilence, hnode⟩ : ∃ u, loadDrawn { s with node := .running } = u ∧ u.faults = s.faults ∧
      u.sequencer = s.sequencer ∧ u.resolver.silence = s.resolver.silence ∧ u.node = .running := by
    obtain ⟨d, -, e⟩ := loadDrawn_eq { s with node := .running }
    exact ⟨_, e, rfl, rfl, rfl, rfl⟩
  rw [hu] at hrun ⊢
  have hnode' : (startShift (refreshSpeaking u)).node = .running := by rw [startShift_node, refreshSpeaking_node, hnode]
  refine (keeps_enterShoe hx hn hrun hnode' ?_ ?_ ?_).trans (keeps_noteCall ?_)
  · rw [startShift_faults, refreshSpeaking_faults, hfaults]
  · rw [startShift_sequencer, refreshSpeaking_sequencer, hseq]
  · rw [startShift_resolver, refreshSpeaking_silence, hsilence]
  · exact live_of_running (by rw [enterShoe_node, hnode'])

/-- Entry to HAND_ONLY (R226). -/
theorem keeps_enterHandOnly (hn : s.node = .starting (.ready true)) :
    Keeps s (noteCall (startShift (refreshSpeaking (loadDrawn { s with
      node := .handOnly
      sequencer := s.sequencer.cut
      outputs := { s.outputs with serviceBlink := some (true, 500) } })))) := by
  have hl : s.live = false := by simp [State.live, hn]
  obtain ⟨d, hd, e⟩ := loadDrawn_eq { s with
      node := .handOnly
      sequencer := s.sequencer.cut
      outputs := { s.outputs with serviceBlink := some (true, 500) } }
  have hcore : Keeps s (refreshSpeaking (loadDrawn { s with
      node := .handOnly
      sequencer := s.sequencer.cut
      outputs := { s.outputs with serviceBlink := some (true, 500) } })) := by
    rw [e]
    refine KeepsCore.refreshSpeaking {
      division := fun h => ⟨by rw [h.2 hl]; nofun, fun _ => h.2 hl⟩
      coil := fun h => State.coilLaw_iff.2 ⟨Sequencer.wf_cut _ s.sequencer.cut.cutHold, (State.coilLaw_iff.1 h).2.1, fun _ => rfl⟩
      fault := fun _ ⟨h⟩ => ⟨by
        simp only [State.faultLaw, hn] at h ⊢
        obtain ⟨h1, h2, h3, h4, -⟩ := h
        refine ⟨h2, stuckCount_eq_zero.2 fun n => ?_, ?_, h4, ?_, ?_⟩
        · rw [cut_getElem, MotionRecord.cut]
          split
          · exact stuckCount_eq_zero.1 h3 n
          · rfl
        all_goals simp [Faults.has, h1, Flag.mask, Flag.bit]⟩ }
      (fun _ _ => ⟨hd⟩) fun ⟨h⟩ => ⟨?_⟩
    simp only [State.lampLaw, hn] at h ⊢
    exact h.1
  refine (hcore.trans (keeps_startShift _)).trans (keeps_noteCall ?_)
  rw [live_congr (startShift_node _), live_congr (refreshSpeaking_node _)]
  rfl

/-! ### The clock -/

theorem MotionRecord.tick_direction (r : MotionRecord) : r.tick.motion.direction = r.motion.direction := by
  obtain ⟨m, st⟩ := r
  cases m <;> rfl

theorem tick_motion (sq : Sequencer) (n : StopNo) :
    (sq.motions.map MotionRecord.tick)[n] = (sq.motions[n]).tick := by simp

/-- A millisecond shortens every timer of a move and changes nothing else of it. -/
theorem Sequencer.Wf.tick {c : NodeConfig} {sq : Sequencer} (h : sq.Wf c) (hold wait : Option Nat) :
    Sequencer.Wf c { sq with motions := sq.motions.map MotionRecord.tick, cutHold := hold, startWait := wait } := by
  have hpulses (r : MotionRecord) : r.tick.motion.pulses = r.motion.pulses := by
    obtain ⟨m, st⟩ := r
    cases m <;> rfl
  refine ⟨?_, h.nodup, fun n => ?_, h.below, fun n => ?_, fun n => ?_⟩
  · have hle := h.energized
    unfold Sequencer.energized at hle ⊢
    simp only [Vector.toList_map, List.countP_map, Function.comp_def, hpulses]
    exact hle
  · rw [h.moves n, tick_motion]
    generalize sq.motions[n] = r
    obtain ⟨m, st⟩ := r
    cases m <;> simp [MotionRecord.tick]
  · have hp := h.pulse n
    rw [tick_motion]
    generalize sq.motions[n] = r at hp ⊢
    obtain ⟨m, st⟩ := r
    cases m <;> simp_all [MotionRecord.tick, Motion.pulseLeft]
    omega
  · have ha := h.awaits n
    rw [tick_motion]
    generalize sq.motions[n] = r at ha ⊢
    obtain ⟨m, st⟩ := r
    cases m <;> simp_all [MotionRecord.tick, Motion.awaitsItsDirection]

theorem lawful_tick {d : Debounce} (h : d.lawful) : d.tick.lawful := by
  simpa [Debounce.lawful, Debounce.tick, tick] using h

/-- A millisecond at every timer (log 5). -/
theorem keeps_advance (s : State) : Keeps s (advance s) := by
  have hstuck (n : StopNo) : ((s.sequencer.motions.map MotionRecord.tick)[n]).stuck = (s.sequencer.motions[n]).stuck := by
    rw [tick_motion]; rfl
  have hsilence (x : Silence) : (x.tick = .silent ↔ x = .silent) ∧ (x = .waiting → x.tick = .waiting) := by
    cases x <;> simp [Silence.tick]
  have hvalue (n : StopNo) : ((s.scanner.stops.map Debounce.tick)[n]).value = (s.scanner.stops[n]).value := by
    simp [Debounce.tick]
  have hsteady (i : Fin 16) : ((s.outputs.lamps.map Lamp.tick)[i]).steady = (s.outputs.lamps[i]).steady := by
    simp [Lamp.tick]
  have hdark (h : s.outputs.lamps = Vector.replicate 16 Lamp.dark) :
      s.outputs.lamps.map Lamp.tick = Vector.replicate 16 Lamp.dark := by
    rw [h]; simp [Lamp.tick, Lamp.dark]
  unfold advance
  exact {
    coil := fun h => by
      obtain ⟨hwf, hb, hmoves⟩ := State.coilLaw_iff.1 h
      exact State.coilLaw_iff.2 ⟨hwf.tick _ _, hb, hmoves⟩
    fault := fun _ h => causesHold_congr (s := s) rfl (stuckCount_congr hstuck) (hsilence _) rfl ⟨rfl, rfl, rfl, rfl⟩ (fun _ => rfl) h
    scanner := fun ⟨h1, h2, h3⟩ => ⟨fun n => by simpa only [Fin.getElem_fin, Vector.getElem_map] using lawful_tick (h1 n),
      fun i => by simpa only [Fin.getElem_fin, Vector.getElem_map] using lawful_tick (h2 i),
      fun j => by simpa only [Fin.getElem_fin, Vector.getElem_map] using lawful_tick (h3 j)⟩
    shoe := fun ⟨h1, h2, h3, h4, h5, h6, h7⟩ => ⟨h1, h2, h3, h4, fun k hk => by
      obtain ⟨j, hj, rfl⟩ := Option.map_eq_some_iff.1 hk
      exact (Nat.sub_le j 1).trans (h5 j hj), h6, h7⟩
    drawn := fun _ h => drawnHolds_congr (s := s) rfl rfl rfl hvalue (fun _ => hstuck)
      (fun _ n => MotionRecord.image_congr (hstuck n) (by rw [tick_motion, MotionRecord.tick_direction]) _) h
    lamp := fun ⟨h⟩ => ⟨by
      simp only [State.lampLaw, State.steadyValue_eq] at h ⊢
      split at h
      · exact fun i => (hsteady i).trans (h i)
      · exact ⟨hdark h.1, h.2⟩
      · exact hdark h⟩ }

end

end Sys2Proof.Machine
end

section
/-! PROOF. Every command answers a next state and keeps every law, and so does every step: the statements on the laws
of the node. -/

namespace Sys2Proof.Machine

/-- The outcome is a next state that keeps the laws. -/
def Answers (s : State) (o : Host.Outcome State Fault Refusal) : Prop := ∃ t, o = .next t ∧ Keeps s t

section
variable {s t : State}

theorem answers_next (h : Keeps s t) : Answers s (.next t) := ⟨t, rfl, h⟩

theorem answers_same (s : State) : Answers s (.next s) := answers_next (.refl s)

theorem answers_frame {c : Instr} {act : Bool → State → State} (h : ∀ own t, t.live = true → Keeps t (act own t)) :
    Answers s (.next (takeFrame c act s)) := answers_next (keeps_takeFrame h s)

/-- A frame that only a RUNNING node acts on. -/
theorem answers_running {c d : Instr} {act : State → State}
    (h : ∀ t : State, t.node = .running → t.rangeFault d = false → Keeps t (act t)) :
    Answers s (.next (takeFrame c (fun _ => whenRunning d act) s)) :=
  answers_frame fun _ t _ => keeps_whenRunning (h t)

theorem pressDue_node {c : Contact} (h : s.pressDue c = true) : s.node = .running :=
  node_of_runs (Bool.and_eq_true_iff.1 h).1

/-- A press of an auxiliary input (R151). -/
theorem answers_auxPress {j : Fin 8} {f : AuxFunction} {effect : State → State}
    (h : ∀ t : State, t.node = .running → Keeps t (effect t)) : Answers s (auxPress j f effect s) := by
  unfold auxPress
  split
  · rename_i hp
    have hr := pressDue_node (Bool.and_eq_true_iff.1 hp).1
    exact answers_next ((keeps_debounced rfl s).trans (h _ hr))
  · exact answers_same s

/-! ### Starts and the supply -/

/-- The last of two events named first. -/
theorem Keeps.after {u : State} (h' : Keeps t u) (h : Keeps s t) : Keeps s u := h.trans h'

theorem answers_powerOn (straps : Straps) (s : State) : Answers s (exec (.powerOn straps) s) := by
  have hlost : ∃ u, (if s.powered = true then loseSupply s else s) = u ∧ Keeps s u ∧ u.node = .unpowered := by
    refine ⟨_, rfl, ?_⟩
    split
    · exact ⟨keeps_loseSupply s, rfl⟩
    · exact ⟨.refl s, by simpa [State.powered] using ‹¬ s.powered = true›⟩
  obtain ⟨u, hu, hkeeps, hn⟩ := hlost
  refine answers_next ?_
  rw [hu]
  exact ((hkeeps.trans (keeps_outputsOff hn)).trans (keeps_pins _ _)).trans (keeps_beginStart _ _)

theorem answers_resetLine (straps : Straps) (s : State) : Answers s (exec (.resetLine straps) s) := by
  rw [exec_resetLine]
  unfold execResetLine
  split
  · exact answers_same s
  · refine answers_next ?_
    split
    · exact (keeps_pins _ s).trans (keeps_beginStart _ _)
    · exact keeps_pins _ s

theorem answers_resetRelease (s : State) : Answers s (exec .resetRelease s) := by
  refine answers_next ?_
  split
  · rename_i h
    exact (keeps_pins _ s).trans (keeps_startStore h.2)
  · exact keeps_pins _ s

theorem answers_supplyFall (s : State) : Answers s (exec .supplyFall s) := by
  rw [exec_supplyFall]
  unfold execSupplyFall
  split
  · refine answers_next ?_
    split
    · rename_i hr
      exact (keeps_pins _ s).trans (keeps_cutAtFall (node_of_runs hr))
    · exact keeps_pins _ s
  · exact answers_same s

theorem keeps_endPassedHold (s : State) : Keeps s (endPassedHold s) := by
  unfold endPassedHold
  split
  · exact keeps_waits s none s.sequencer.startWait
  · exact .refl s

theorem answers_supplyRecovery (s : State) : Answers s (exec .supplyRecovery s) := by
  rw [exec_supplyRecovery]
  unfold execSupplyRecovery
  split
  · exact answers_next ((((keeps_pins _ s).trans (keeps_startWrite _)).trans (keeps_endPassedHold _)).trans
      (keeps_startRule _))
  · exact answers_same s

/-! ### Presses -/

theorem keeps_recallEffect (p : Piston) (hr : s.node = .running) : Keeps s (recallEffect p s) := by
  have hl := live_of_running hr
  have hoffer (b : Byte → Body) (hb : ∀ n, ∃ sc d p l, b n = .recall sc d p l n) : Keeps s (offerWithSerial b s).1 :=
    keeps_offerWithSerial hl (fun n => by obtain ⟨_, _, _, _, e⟩ := hb n; rw [e]; rfl)
      fun n => by obtain ⟨_, _, _, _, e⟩ := hb n; rw [e]; rfl
  unfold recallEffect
  dsimp only
  split
  · split
    · split
      · rename_i q hq
        exact ((offers_rewritePress hq).keeps (.refl _)).trans (keeps_advanceSerial _)
      · exact hoffer _ fun n => ⟨_, _, _, _, rfl⟩
    · exact .refl s
  · exact hoffer _ fun n => ⟨_, _, _, _, rfl⟩

theorem keeps_captureEffect (p : Piston) (hr : s.node = .running) : Keeps s (captureEffect p s) := by
  have hl := live_of_running hr
  unfold captureEffect
  split
  · exact keeps_blinkPiston _ p hr
  · have h := keeps_offerWithSerial (s := s) (b := fun serial => .capture p.scope (s.divisionFor p) (lowByte p.number)
      (lowByte s.resolver.level) serial) hl (fun _ => rfl) fun _ => rfl
    have hn := offerWithSerial_fst_node (fun serial => .capture p.scope (s.divisionFor p) (lowByte p.number)
      (lowByte s.resolver.level) serial) s
    split <;> rename_i u e <;> rw [e] at h hn
    · exact h
    · exact h.trans (keeps_blinkPiston _ p (hn.trans hr))

theorem keeps_programEffect (k : Fin 4) (hr : s.node = .running) : Keeps s (programEffect k s) := by
  unfold programEffect
  split
  · have hl := live_of_running hr
    refine (keeps_offerShoe (s := { s with shoe := { s.shoe with program := k.val } }) hl).after
      (keeps_shoe rfl fun ⟨h1, h2, h3, _, h5, h6, h7⟩ => ?_)
    exact ⟨h1, h2, h3, Nat.le_of_lt_succ k.isLt, h5, h6, h7⟩
  · exact .refl s

theorem keeps_offerBody {b : Body} (hr : s.node = .running) (hn : b.isNote = false) (hs : b.isShoe = false) :
    Keeps s (offer b s).1 :=
  keeps_offer (live_of_running hr) hn (by
    cases b with
    | shoe d p k => cases hs
    | _ => rfl)

theorem keeps_offerStep (forward : Bool) (hr : s.node = .running) : Keeps s (offerWithSerial (.step forward) s).1 :=
  keeps_offerWithSerial (live_of_running hr) (fun _ => rfl) fun _ => rfl

/-! ### Every command -/

theorem answers_contacts (c : Contact) (h : Bool) (s : State) :
    Answers s (exec (.contactChange c h) s) ∧ Answers s (exec (.pistonRelease c) s) ∧
      Answers s (exec (.pressIgnored c) s) := by
  refine ⟨keeps_contactChange c h s, ?_, ?_⟩
  · rw [exec_pistonRelease]
    unfold execPistonRelease
    split
    · rename_i hc
      simp only [Bool.and_eq_true] at hc
      exact answers_next (keeps_debounced hc.1.1 s)
    · exact answers_same s
  · rw [exec_pressIgnored]
    unfold execPressIgnored
    split
    · rename_i hc
      simp only [Bool.and_eq_true] at hc
      exact answers_next (keeps_debounced hc.1.1.1 s)
    · exact answers_same s

theorem answers_stopSenseChange (n : StopNo) (s : State) : Answers s (exec (.stopSenseChange n) s) := by
  rw [exec_stopSenseChange]
  unfold execStopSenseChange
  split
  · exact answers_next (keeps_senseReport n s)
  · exact answers_same s

theorem answers_pistonPress (i : Fin 16) (s : State) :
    Answers s (exec (.recallPress i) s) ∧ Answers s (exec (.capturePress i) s) := by
  refine ⟨?_, ?_⟩
  · rw [exec_recallPress]
    unfold execRecallPress
    split
    · split
      · rename_i hp
        have hr := pressDue_node (Bool.and_eq_true_iff.1 hp).1
        exact answers_next ((keeps_debounced rfl s).trans (keeps_recallEffect _ hr))
      · exact answers_same s
    · exact answers_same s
  · rw [exec_capturePress]
    unfold execCapturePress
    split
    · split
      · rename_i hp
        have hr := pressDue_node (Bool.and_eq_true_iff.1 hp).1
        exact answers_next ((keeps_debounced rfl s).trans (keeps_captureEffect _ hr))
      · exact answers_same s
    · exact answers_same s

theorem answers_divisionalCancelPress (j : Fin 8) (s : State) : Answers s (exec (.divisionalCancelPress j) s) := by
  rw [exec_divisionalCancelPress]
  unfold execDivisionalCancelPress
  split
  · exact answers_auxPress fun t hr => keeps_offerBody hr rfl rfl
  · exact answers_same s

theorem answers_programPress (j : Fin 8) (s : State) : Answers s (exec (.programPress j) s) := by
  rw [exec_programPress]
  unfold execProgramPress
  split
  · exact answers_auxPress fun t hr => keeps_programEffect _ hr
  · exact answers_same s

theorem keeps_withLine (l : Line) (s : State) : Keeps s (withLine l s) := {}

theorem answers_line (field : BitVec 9) (bits : List Bool) (s : State) :
    Answers s (exec .linkIdle s) ∧ Answers s (exec .startBitRead s) ∧ Answers s (exec (.arbitrationLost field) s) ∧
      Answers s (exec .readbackMismatch s) ∧ Answers s (exec (.formatError bits) s) ∧ Answers s (exec (.badCheck bits) s) := by
  refine ⟨?_, ?_, ?_, ?_, ?_, ?_⟩
  · rw [exec_linkIdle]
    unfold execLinkIdle
    split
    · exact answers_next ((keeps_withLine _ s).trans (keeps_startAttempt _))
    · exact answers_same s
  · rw [exec_startBitRead]
    unfold execStartBitRead
    split
    · exact answers_next (keeps_withLine _ s)
    · exact answers_same s
  · rw [exec_arbitrationLost]
    unfold execArbitrationLost
    split
    · split
      · exact answers_next ((offers_releaseHead s).keeps (.refl _))
      · exact answers_same s
    · exact answers_same s
  · rw [exec_readbackMismatch]
    unfold execReadbackMismatch
    split
    · exact answers_next (((keeps_withLine _ s).trans (keeps_headLeaves _)).trans (keeps_setFlag rfl _))
    · exact answers_same s
  · rw [exec_formatError]
    unfold execFormatError
    split
    · exact answers_next ((keeps_withLine _ s).trans (keeps_setFlag rfl _))
    · exact answers_same s
  · rw [exec_badCheck]
    unfold execBadCheck
    split
    · exact answers_next ((keeps_withLine _ s).trans (keeps_setFlag rfl _))
    · exact answers_same s

theorem answers_unknownKind (f : RawFrame) (s : State) : Answers s (exec (.unknownKind f) s) := by
  rw [exec_unknownKind]
  unfold execUnknownKind
  split
  · refine answers_frame fun _ t _ => ?_
    split
    · exact keeps_setFlag rfl t
    · exact .refl t
  · exact answers_same s

theorem answers_faultNoteRetry (s : State) : Answers s (exec .faultNoteRetry s) := by
  rw [exec_faultNoteRetry]
  unfold execFaultNoteRetry
  split
  · rename_i h
    simp only [Bool.and_eq_true] at h
    have hdue : Offers s { s with faults := { s.faults with retryDue := false } } :=
      .of_queue_same rfl rfl rfl rfl fun _ => rfl
    refine answers_next ((hdue.keeps ⟨rfl, rfl, rfl, rfl⟩).trans ?_)
    exact (offers_offerNote (s := { s with faults := { s.faults with retryDue := false } }) h.1.1).keeps_of_has
      fun _ hf => offerNote_has (Flag.ne_txOverflow_of_follows hf) _
  · exact answers_same s

theorem answers_scanReply (s : State) : Answers s (exec .scanReply s) := by
  rw [exec_scanReply]
  unfold execScanReply
  split
  · split
    · rename_i h
      simp only [State.replyMayBeOffered, Bool.and_eq_true] at h
      have hdropped : Keeps s { s with service := { s.service with scan := none } } :=
        keeps_service fun ⟨h1, h2, h3, h4, h5, h6, h7, _⟩ => ⟨h1, h2, h3, h4, h5, h6, h7, nofun⟩
      refine answers_next (hdropped.trans (keeps_offer h.1.1 ?_ ?_)) <;> split <;> rfl
    · exact answers_same s
  · exact answers_same s

theorem answers_writeEnds (r : Option ArrayBytes) (s : State) :
    Answers s (exec (.writeVerify r) s) ∧ Answers s (exec (.forcingWriteEnd r) s) := by
  refine ⟨?_, ?_⟩
  · rw [exec_writeVerify]
    unfold execWriteVerify
    split
    · rename_i hs _
      split
      · exact answers_next ((keeps_verifyHead r (by rw [hs]; nofun)).trans (keeps_startGoesOn _))
      · exact answers_same s
    · exact answers_same s
  · rw [exec_forcingWriteEnd]
    unfold execForcingWriteEnd
    split
    · rename_i hs _
      split
      · exact answers_next ((keeps_forcingEnds r (by rw [hs]; nofun)).trans (keeps_startGoesOn _))
      · exact answers_same s
    · exact answers_same s

theorem answers_moves (n : StopNo) (s : State) :
    Answers s (exec (.pulseExpiry n) s) ∧ Answers s (exec (.settleCheck n) s) ∧ Answers s (exec (.restExpiry n) s) := by
  refine ⟨?_, ?_, ?_⟩
  · rw [exec_pulseExpiry]
    unfold execPulseExpiry
    split
    · split
      · exact answers_next ((keeps_pulseEnd ‹_›).trans (keeps_startRule _))
      · exact answers_same s
    · exact answers_same s
  · rw [exec_settleCheck]
    unfold execSettleCheck
    split
    · rename_i hm
      split
      · rename_i hr
        rw [senses_getElem]
        exact answers_next ((keeps_settleCheck (node_of_runs hr) hm).trans (keeps_startRule _))
      · exact answers_same s
    · exact answers_same s
  · rw [exec_restExpiry]
    unfold execRestExpiry
    split
    · rename_i hm
      split
      · rename_i hr
        rw [senses_getElem]
        exact answers_next ((keeps_restEnd (node_of_runs hr) hm).trans (keeps_startRule _))
      · exact answers_same s
    · exact answers_same s

theorem answers_shoe (x : Nat) (s : State) :
    Answers s (exec (.shoeSample x) s) ∧ Answers s (exec (.followerExpiry x) s) ∧ Answers s (exec .refreshExpiry s) := by
  refine ⟨?_, ?_, ?_⟩
  · rw [exec_shoeSample]
    unfold execShoeSample
    split
    · rename_i hc
      obtain ⟨hr, -, hc⟩ := activeShoe_eq_some hc
      split
      · exact answers_next (keeps_takeSample hr ‹_› hc)
      · exact answers_same s
    · exact answers_same s
  · rw [exec_followerExpiry]
    unfold execFollowerExpiry
    split
    · rename_i hc
      obtain ⟨hr, -, hc⟩ := activeShoe_eq_some hc
      split
      · rename_i hx
        exact answers_next (keeps_takeSample hr hx.1 hc)
      · exact answers_same s
    · exact answers_same s
  · rw [exec_refreshExpiry]
    unfold execRefreshExpiry
    split
    · rename_i h
      have hr := (activeShoe_isSome (Bool.and_eq_true_iff.1 h).1).1
      exact answers_next ((keeps_refreshLoaded s).trans (keeps_offerShoe (live_of_running hr)))
    · exact answers_same s

theorem answers_silence (s : State) : Answers s (exec .silencePeriod s) ∧ Answers s (exec .silenceExpiry s) := by
  refine ⟨?_, ?_⟩
  · rw [exec_silencePeriod]
    unfold execSilencePeriod
    split
    · rename_i hk
      split
      · rename_i hr
        refine answers_next ?_
        split
        · exact keeps_silencePeriod hk
        · exact keeps_expireSilence (node_of_runs hr)
      · exact answers_same s
    · exact answers_same s
  · rw [exec_silenceExpiry]
    unfold execSilenceExpiry
    split
    · split
      · rename_i hr
        exact answers_next (keeps_expireSilence (node_of_runs hr.1))
      · exact answers_same s
    · exact answers_same s

/-- A piston lamp's blink changes and its steady value stays (R84). -/
theorem keeps_blink (i : Fin 16) (b : Option Blink) (hr : s.node = .running) :
    Keeps s { s with outputs := { s.outputs with
      lamps := put s.outputs.lamps i { s.outputs.lamps[i] with blink := b } } } := by
  refine keeps_outputs (fun k => ?_) fun h => absurd hr h
  rw [getElem_put_fin]
  split
  · subst_vars; rfl
  · rfl

theorem answers_outputs (lamp : BlinkLamp) (i : Fin 16) (s : State) :
    Answers s (exec .shiftEnd s) ∧ Answers s (exec (.blinkPhase lamp) s) ∧ Answers s (exec (.blinkEnd i) s) ∧
      Answers s (exec .faultPulseEnd s) := by
  refine ⟨?_, ?_, ?_, ?_⟩
  · rw [exec_shiftEnd]
    unfold execShiftEnd
    split
    · split
      · exact answers_next ((keeps_startShift _).after (keeps_outputs (fun _ => rfl) fun _ => rfl))
      · exact answers_same s
    · exact answers_same s
  · rw [exec_blinkPhase]
    unfold execBlinkPhase
    split
    · split
      · rename_i hr
        exact answers_next (keeps_blink _ _ (node_of_runs hr))
      · exact answers_same s
    · split
      · exact answers_next (keeps_outputs (fun _ => rfl) fun _ => rfl)
      · exact answers_same s
  · rw [exec_blinkEnd]
    unfold execBlinkEnd
    split
    · rename_i hr
      exact answers_next (keeps_blink _ _ (node_of_runs hr))
    · exact answers_same s
  · have hpulse : Offers s { s with faults := { s.faults with pulse := none } } :=
      .of_queue_same rfl rfl rfl rfl fun _ => rfl
    exact answers_next (hpulse.keeps ⟨rfl, rfl, rfl, rfl⟩)

theorem answers_waits (s : State) : Answers s (exec .startWaitEnd s) ∧ Answers s (exec .cutHoldEnd s) := by
  refine ⟨?_, ?_⟩
  · rw [exec_startWaitEnd]
    unfold execStartWaitEnd
    split
    · exact answers_next ((keeps_waits s s.sequencer.cutHold none).trans (keeps_startRule _))
    · exact answers_same s
  · rw [exec_cutHoldEnd]
    unfold execCutHoldEnd
    split
    · exact answers_next ((keeps_waits s none s.sequencer.startWait).trans (keeps_startRule _))
    · exact answers_same s

theorem answers_enters (x : Nat) (s : State) :
    Answers s (exec (.enterRunning x) s) ∧ Answers s (exec .enterHandOnly s) := by
  refine ⟨?_, ?_⟩
  · rw [exec_enterRunning]
    unfold execEnterRunning
    split
    · rename_i h
      exact answers_next (keeps_enterRunning h.2.2 h.1)
    · exact answers_same s
  · rw [exec_enterHandOnly]
    unfold execEnterHandOnly
    split
    · rename_i h
      exact answers_next (keeps_enterHandOnly h.1)
    · exact answers_same s

/-! ### Frames -/

/-- The frames that RUNNING nodes act on as the console plays (R9 to R20, R87 to R89, R104, R130 to R140). -/
theorem answers_recall (a : Address) (d p l n o : Byte) (s : State) :
    Answers s (exec (.generalRecall a d p l n o) s) ∧ Answers s (exec (.divisionalRecall a d p l n o) s) := by
  refine ⟨answers_running fun t hr hf => keeps_generalRecall hr ?_, answers_running fun t hr hf => ?_⟩
  · simpa [State.rangeFault, runs_of_running hr] using hf
  · split
    · exact keeps_divisionalRecall hr
    · exact keeps_lampReference _ _ hr

theorem answers_cancel (a : Address) (d : Byte) (s : State) :
    Answers s (exec (.generalCancel a d) s) ∧ Answers s (exec (.divisionalCancel a d) s) := by
  refine ⟨answers_running fun t hr _ => keeps_generalCancel hr, answers_running fun t hr _ => ?_⟩
  split
  · exact keeps_divisionalCancel hr
  · exact keeps_lampReference _ _ hr

theorem answers_capture (a : Address) (d p l n : Byte) (s : State) :
    Answers s (exec (.generalCapture a d p l n) s) ∧ Answers s (exec (.divisionalCapture a d p l n) s) := by
  refine ⟨answers_running fun t hr hf => keeps_generalCapture hr ?_, answers_running fun t hr hf => ?_⟩
  · simpa [State.rangeFault, runs_of_running hr] using hf
  · split
    · refine keeps_divisionalCapture hr ?_
      simp only [State.rangeFault, runs_of_running hr, Bool.true_and, Bool.not_eq_false', Bool.and_eq_true] at hf
      exact hf.1
    · exact (keeps_lampReference _ _ hr).trans (keeps_blinkPiston _ _ (by rw [refreshLamps_node, setLampReference_node, hr]))

/-- Every command answers a next state that keeps every law. -/
theorem exec_answers (c : Instr) (s : State) : Answers s (exec c s) := by
  cases c with
  | powerOn straps => exact answers_powerOn straps s
  | resetLine straps => exact answers_resetLine straps s
  | resetRelease => exact answers_resetRelease s
  | enterRunning x => exact (answers_enters x s).1
  | enterHandOnly => exact (answers_enters 0 s).2
  | startWaitEnd => exact (answers_waits s).1
  | supplyFall => exact answers_supplyFall s
  | supplyRecovery => exact answers_supplyRecovery s
  | cutHoldEnd => exact (answers_waits s).2
  | contactChange c closed => exact (answers_contacts c closed s).1
  | stopSenseChange n => exact answers_stopSenseChange n s
  | recallPress i => exact (answers_pistonPress i s).1
  | capturePress i => exact (answers_pistonPress i s).2
  | pistonRelease c => exact (answers_contacts c false s).2.1
  | setPress j => exact answers_auxPress fun t _ => .refl t
  | generalCancelPress j => exact answers_auxPress fun t hr => keeps_offerBody hr rfl rfl
  | divisionalCancelPress j => exact answers_divisionalCancelPress j s
  | stepNextPress j => exact answers_auxPress fun t hr => keeps_offerStep true hr
  | stepPrevPress j => exact answers_auxPress fun t hr => keeps_offerStep false hr
  | levelUpPress j => exact answers_auxPress fun t hr => keeps_offerBody hr rfl rfl
  | levelDownPress j => exact answers_auxPress fun t hr => keeps_offerBody hr rfl rfl
  | tuttiPress j => exact answers_auxPress fun t hr => keeps_offerBody hr rfl rfl
  | programPress j => exact answers_programPress j s
  | linkIdle => exact (answers_line 0 [] s).1
  | startBitRead => exact (answers_line 0 [] s).2.1
  | arbitrationLost field => exact (answers_line field [] s).2.2.1
  | readbackMismatch => exact (answers_line 0 [] s).2.2.2.1
  | formatError bits => exact (answers_line 0 bits s).2.2.2.2.1
  | badCheck bits => exact (answers_line 0 bits s).2.2.2.2.2
  | unknownKind f => exact answers_unknownKind f s
  | generalRecall a d p l n o => exact (answers_recall a d p l n o s).1
  | divisionalRecall a d p l n o => exact (answers_recall a d p l n o s).2
  | generalCancel a d => exact (answers_cancel a d s).1
  | divisionalCancel a d => exact (answers_cancel a d s).2
  | generalCapture a d p l n => exact (answers_capture a d p l n s).1
  | divisionalCapture a d p l n => exact (answers_capture a d p l n s).2
  | deviate a sc d x n => exact answers_running fun t hr _ => keeps_deviate _ _ _ _ hr
  | level a l => exact answers_running fun t _ _ => keeps_level l t
  | lock a l v => exact answers_frame fun _ t _ => {}
  | shoe a p k =>
    exact answers_running fun t hr _ => keeps_shoeEffect (Nat.min_le_right _ _) (Nat.min_le_right _ _) hr
  | tuttiOn a on l => exact answers_running fun t _ _ => keeps_tuttiOn (Nat.min_le_right _ _) t
  | tuttiOff a l => exact answers_running fun t _ _ => keeps_tuttiOff t
  | serviceModeOn a target on option =>
    refine keeps_forTarget (fun t _ => Keeps.trans ?_ (keeps_clearOption option _)) s
    split
    · exact keeps_service (serviceLaw_mode true)
    · exact .refl t
  | serviceModeOff a target option =>
    refine keeps_forTarget (fun t _ => ?_) s
    split
    · exact keeps_service serviceLaw_ended
    · exact .refl t
  | storePointRead a target high low =>
    exact keeps_forTarget (fun t _ => keeps_whenObeyed (keeps_service (serviceLaw_pointRead (clampIndex_le high low)))) s
  | storePointWrite a target which high low =>
    exact keeps_forTarget (fun t _ => keeps_whenObeyed
      (keeps_service (serviceLaw_pointWrite fun _ => clampIndex_le high low))) s
  | storeWrite a target data => exact keeps_forTarget (fun t _ => keeps_whenObeyed (keeps_takePart data t)) s
  | storeRead a target count =>
    exact keeps_forTarget (fun t _ => keeps_whenObeyed (keeps_service (serviceLaw_read count))) s
  | changedScan a target high low =>
    refine keeps_forTarget (fun t _ => keeps_whenObeyed (keeps_service
      fun ⟨h1, h2, h3, h4, h5, h6, h7, _⟩ => ⟨h1, h2, h3, h4, h5, h6, h7, fun i hi => ?_⟩)) s
    obtain rfl := Option.some.inj hi
    exact clampIndex_le high low
  | configWrite a target offset data =>
    refine keeps_forTarget (fun t _ => ?_) s
    split
    · exact keeps_setFlag rfl t
    · refine keeps_whenObeyed ?_
      generalize writeBlock t.block _ _ = block
      exact {}
  | faultClear a target high low => exact keeps_forTarget (fun t hl => keeps_clearRequest _ hl) s
  | restart a target => exact keeps_forTarget (fun t _ => keeps_beginStart .link t) s
  | faultNote a high low count =>
    refine answers_frame fun own t _ => ?_
    split
    · exact Offers.keeps (.of_queue_same rfl rfl rfl rfl fun _ => rfl) ⟨rfl, rfl, rfl, rfl⟩
    · exact .refl t
  | storeDataTaken a part data => exact answers_frame fun _ t _ => .refl t
  | scanReplyTaken a found high low => exact answers_frame fun _ t _ => .refl t
  | storeData => exact answers_next (keeps_offerParts _ s)
  | scanReply => exact answers_scanReply s
  | faultNoteRetry => exact answers_faultNoteRetry s
  | writeVerify r => exact (answers_writeEnds r s).1
  | forcingWriteEnd r => exact (answers_writeEnds r s).2
  | pulseExpiry n => exact (answers_moves n s).1
  | settleCheck n => exact (answers_moves n s).2.1
  | restExpiry n => exact (answers_moves n s).2.2
  | shoeSample x => exact (answers_shoe x s).1
  | followerExpiry x => exact (answers_shoe x s).2.1
  | refreshExpiry => exact (answers_shoe 0 s).2.2
  | silencePeriod => exact (answers_silence s).1
  | silenceExpiry => exact (answers_silence s).2
  | shiftEnd => exact (answers_outputs .service 0 s).1
  | blinkPhase lamp => exact (answers_outputs lamp 0 s).2.1
  | blinkEnd i => exact (answers_outputs .service i s).2.2.1
  | faultPulseEnd => exact (answers_outputs .service 0 s).2.2.2
  | supplyLost =>
    refine answers_next ?_
    split
    · exact keeps_loseSupply s
    · exact .refl s
  | pressIgnored c => exact (answers_contacts c false s).2.2

/-- Settles O3: the answer of `exec_answers` leaves the waiting commands alone. -/
theorem everyCommandAnswersANextState : Obligations.EveryCommandAnswersANextState := by
  intro c s
  obtain ⟨t, ht, hkeeps⟩ := exec_answers c s
  exact ⟨t, ht, hkeeps.pending⟩

/-! ### Every step -/

/-- No law reads the waiting commands. -/
structure KeepsLaws (s t : State) : Prop where
  memory : s.memoryLaw → t.memoryLaw
  writes : s.memoryLaw → s.serviceLaw → s.writeListLaw → t.writeListLaw
  queue : s.queueLaw → t.queueLaw
  division : s.shoeDivisionLaw → t.shoeDivisionLaw
  coil : s.coilLaw → t.coilLaw
  fault : s.queueLaw → s.CausesHold → t.CausesHold
  level : s.levelLaw → t.levelLaw
  service : s.serviceLaw → t.serviceLaw
  scanner : s.scannerLaw → t.scannerLaw
  shoe : s.shoeLaw → t.shoeLaw
  drawn : s.coilLaw → s.DrawnHolds → t.DrawnHolds
  speaking : s.speakingLaw → t.speakingLaw
  lamp : s.LampsHold → t.LampsHold

/-- What holds from the state with the queue's rest holds from the state with the whole queue. -/
theorem Keeps.laws {rest : List Instr} (h : Keeps { s with pending := rest } t) : KeepsLaws s t :=
  ⟨h.memory, h.writes, h.queue, h.division, h.coil, fun hq ⟨hf⟩ => h.fault hq ⟨hf⟩, h.level, h.service, h.scanner,
    h.shoe, fun hc ⟨hd⟩ => h.drawn hc ⟨hd⟩, h.speaking, fun ⟨hl⟩ => h.lamp ⟨hl⟩⟩

theorem Answers.keeps {o : Host.Outcome State Fault Refusal} (h : Answers s o) (ho : o = .next t) : Keeps s t := by
  obtain ⟨u, hu, hkeeps⟩ := h
  rw [ho] at hu
  obtain rfl := Host.Outcome.next.inj hu
  exact hkeeps

/-- A step runs a command of the queue or of a timer, or lets a millisecond pass; each keeps every law. -/
theorem step_keepsLaws (h : step s = .next t) : KeepsLaws s t := by
  unfold step at h
  split at h
  · exact ((exec_answers _ _).keeps h).laws
  · split at h
    · exact ((exec_answers _ s).keeps h).laws (rest := s.pending)
    · obtain rfl := Host.Outcome.next.inj h
      exact (keeps_advance s).laws (rest := s.pending)

end

/-- Settles O7, by `step_keepsLaws`. -/
theorem everyStepKeepsTheStoreLaws : Obligations.EveryStepKeepsTheStoreLaws :=
  fun _ _ hm hw hv h => ⟨(step_keepsLaws h).memory hm, (step_keepsLaws h).writes hm hv hw⟩

/-- Settles O8, by `step_keepsLaws`. -/
theorem everyStepKeepsTheQueueLaw : Obligations.EveryStepKeepsTheQueueLaw :=
  fun _ _ h => ⟨(step_keepsLaws h).queue, (step_keepsLaws h).division⟩

/-- Settles O9, by `step_keepsLaws`. -/
theorem everyStepKeepsTheCoilLaw : Obligations.EveryStepKeepsTheCoilLaw :=
  fun _ _ hc h => (step_keepsLaws h).coil hc

/-- Settles O10, by `step_keepsLaws`. -/
theorem everyStepKeepsTheDrawnImage : Obligations.EveryStepKeepsTheDrawnImage :=
  fun _ _ hc hd h => ((step_keepsLaws h).drawn hc ⟨hd⟩).law

/-- Settles O11, by `step_keepsLaws`. -/
theorem everyStepKeepsTheSpeakingSet : Obligations.EveryStepKeepsTheSpeakingSet :=
  fun _ _ hs h => (step_keepsLaws h).speaking hs

/-- Settles O12, by `step_keepsLaws`. -/
theorem everyStepKeepsTheLamps : Obligations.EveryStepKeepsTheLamps :=
  fun _ _ hl h => ((step_keepsLaws h).lamp ⟨hl⟩).law

/-- Settles O13, by `step_keepsLaws`. -/
theorem everyStepKeepsTheFollowingFlags : Obligations.EveryStepKeepsTheFollowingFlags :=
  fun _ _ hq hf h => ((step_keepsLaws h).fault hq ⟨hf⟩).law

/-- Settles O14, by `step_keepsLaws`. -/
theorem everyStepKeepsTheRanges : Obligations.EveryStepKeepsTheRanges :=
  fun _ _ ⟨hl, hv, hs, hu⟩ h => ⟨(step_keepsLaws h).level hl, (step_keepsLaws h).service hv,
    (step_keepsLaws h).scanner hs, (step_keepsLaws h).shoe hu⟩

end Sys2Proof.Machine
end

section
/-! PROOF. The step and the clock, the state right after reset, the output events and the silence timer (O1, O2, O15,
O49, O60). -/

namespace Sys2Proof.Machine

section
variable {s : State}

/-! ### The step -/

theorem step_of_cons {c : Instr} {rest : List Instr} (h : s.pending = c :: rest) :
    step s = exec c { s with pending := rest } := by
  unfold step
  rw [h]

theorem step_of_due {c : Instr} (h : s.pending = []) (hc : s.dueCommand = some c) : step s = exec c s := by
  unfold step
  rw [h, hc]

theorem step_of_no_due (h : s.pending = []) (hc : s.dueCommand = none) : step s = .next (advance s) := by
  unfold step
  rw [h, hc]

/-- Settles O1. -/
theorem stepRunsTheFrontCommand : Obligations.StepRunsTheFrontCommand := fun _ _ _ h => step_of_cons h

/-! ### One millisecond -/

theorem advance_input (s : State) (c : Contact) : (advance s).scanner.input c = (s.scanner.input c).tick := by
  cases c <;> simp [advance, Scanner.input]

theorem advance_lamps (s : State) (i : Fin 16) : (advance s).outputs.lamps[i] = (s.outputs.lamps[i]).tick := by
  simp [advance]

theorem advance_motions (s : State) (n : StopNo) : (advance s).sequencer.motions[n] = (s.sequencer.motions[n]).tick := by
  simp [advance]

theorem MotionRecord.tick_motion (r : MotionRecord) : r.tick.motion = match r.motion with
    | .pulsing d a left => .pulsing d a (left - 1)
    | .settling d a left => .settling d a (left - 1)
    | .resting cut d w left => .resting cut d w (left - 1)
    | m => m := by
  obtain ⟨m, stuck⟩ := r
  cases m <;> rfl

theorem Silence.tick_eq (x : Silence) : x.tick = match x with
    | .fed count left => .fed count (left - 1)
    | other => other := by
  cases x <;> rfl

/-- Settles O2: the clock of an empty queue is the due command, or `advance`, whose ticks are read off block by
block. -/
theorem clockRunsOnAnEmptyQueue : Obligations.ClockRunsOnAnEmptyQueue := by
  intro s hp
  refine ⟨fun c hc => step_of_due hp hc, fun hc => ⟨advance s, step_of_no_due hp hc, ?_, ?_, ?_, ?_, rfl, rfl⟩⟩
  · simp only [advance, Silence.tick_eq, tick] <;> rfl
  · exact fun c => advance_input s c
  · exact fun i => advance_lamps s i
  · intro n
    rw [advance_motions]
    exact ⟨rfl, MotionRecord.tick_motion _⟩

/-! ### Right after reset -/

theorem reset_motion (n : StopNo) : State.reset.sequencer.motions[n] = ⟨.atRest, false⟩ := initial_motion n

/-- Settles O15, law by law: the lists are empty, every stop is at rest and every set is empty. -/
theorem resetKeepsEveryLaw : Obligations.ResetKeepsEveryLaw := by
  refine ⟨rfl, State.queueLaw_iff.2 (.nil 0), ⟨nofun, fun _ => rfl⟩, ⟨by decide, by decide, nofun, nofun⟩,
    State.coilLaw_iff.2 ⟨initial_wf _, by decide, fun _ => rfl⟩, fun n => by rw [reset_motion],
    speakingLaw_of_not_live rfl (setsLaw_of_empty rfl rfl rfl), ⟨rfl, rfl, rfl, rfl⟩,
    ⟨rfl, rfl, initial_stuckCount, rfl, rfl⟩, ⟨nofun, nofun, nofun, by decide, nofun, nofun, nofun⟩,
    ⟨by decide, by decide, nofun, by decide, by decide, by decide, by decide⟩,
    ⟨by decide, by decide, by decide, by decide, rfl, by decide, by decide, nofun⟩, ?_⟩
  refine ⟨fun n => ?_, fun n => ?_, fun n => ?_⟩ <;>
    simp [State.reset, Scanner.initial, Debounce.lawful, Debounce.initial]

/-! ### Output events -/

theorem exec_shiftEnd_of_shift {copy : StopSet} (hl : s.live = true) (h : s.outputs.shift = some copy) :
    exec .shiftEnd s = .next (startShift { s with outputs := { s.outputs with latched := copy, shift := none } }) := by
  simp only [exec_shiftEnd, execShiftEnd, h, hl, if_true]

theorem startShift_of_clean (h : s.outputs.dirty = false) : startShift s = s := by simp [startShift, h]

theorem startShift_of_dirty (hd : s.outputs.dirty = true) (hi : s.outputs.shift = none) (hl : s.live = true) :
    startShift s = { s with outputs := { s.outputs with dirty := false, shift := some s.resolver.speaking } } := by
  simp [startShift, hd, hi, hl]

theorem Blink.after_eq (kind : BlinkKind) (k left : Nat) : Blink.after ⟨kind, k, left⟩ =
    if k ≤ 1 then none else some ⟨kind, k - 1, kind.phaseMs⟩ := by
  by_cases hk : k ≤ 1
  · exact (if_neg (by simpa using hk)).trans (if_pos hk).symm
  · exact (if_pos (by simpa using hk)).trans (if_neg hk).symm

/-- A blink phase after the last: the lamp shows its steady value; else the other half of the cycle (R93, R192). -/
theorem Lamp.lit_after (kind : BlinkKind) (k left : Nat) (steady : Bool) :
    (k ≤ 1 → (Lamp.mk steady (Blink.after ⟨kind, k, left⟩)).lit = steady) ∧
      (1 < k → (Lamp.mk steady (Blink.after ⟨kind, k, left⟩)).lit = !(Lamp.mk steady (some ⟨kind, k, left⟩)).lit) := by
  rw [Blink.after_eq]
  refine ⟨fun hk => by rw [if_pos hk]; rfl, fun hk => ?_⟩
  rw [if_neg (by omega)]
  obtain ⟨m, rfl⟩ : ∃ m, k = m + 1 := ⟨k - 1, by omega⟩
  rcases Nat.mod_two_eq_zero_or_one m with hm | hm <;> simp [Lamp.lit, Nat.add_mod, hm]

theorem exec_blinkPhase_of_running (hr : s.node = .running) (i : Fin 16) :
    exec (.blinkPhase (.piston i)) s = .next { s with outputs := { s.outputs with
      lamps := put s.outputs.lamps i
        ⟨(s.outputs.lamps[i]).steady, (s.outputs.lamps[i]).blink.bind Blink.after⟩ } } := by
  simp only [exec_blinkPhase, execBlinkPhase, runs_of_running hr, if_true]

theorem exec_blinkEnd_of_running (hr : s.node = .running) (i : Fin 16) :
    exec (.blinkEnd i) s = .next { s with outputs := { s.outputs with
      lamps := put s.outputs.lamps i ⟨(s.outputs.lamps[i]).steady, none⟩ } } := by
  simp only [exec_blinkEnd, execBlinkEnd, runs_of_running hr, if_true]

theorem exec_blinkPhase_service {lit : Bool} {left : Nat} (hn : s.node = .handOnly)
    (hb : s.outputs.serviceBlink = some (lit, left)) :
    exec (.blinkPhase .service) s =
      .next { s with outputs := { s.outputs with serviceBlink := some (!lit, 500) } } := by
  simp only [exec_blinkPhase, execBlinkPhase, hn, hb]

/-- Without a pulse timer the fault line of PULSE mode is inactive (R197). -/
theorem faultLine_of_no_pulse (hm : s.pulseMode = true) (hp : s.faults.pulse = none) : s.faultLine = false := by
  simp [State.faultLine, hm, hp]

/-- Settles O60, event by event. -/
theorem outputEventsChangeTheirOutput : Obligations.OutputEventsChangeTheirOutput := by
  intro s
  refine ⟨fun copy hl hshift => ⟨fun hd => ?_, fun hd => ?_⟩,
    fun i hr => ⟨fun kind k left hb => ⟨_, exec_blinkPhase_of_running hr i, ?_, ?_⟩, exec_blinkEnd_of_running hr i⟩,
    fun lit left hn hb => exec_blinkPhase_service hn hb, ⟨_, rfl, rfl, fun hr hp => ?_⟩⟩
  · exact (exec_shiftEnd_of_shift hl hshift).trans (congrArg Host.Outcome.next (startShift_of_clean hd))
  · exact (exec_shiftEnd_of_shift hl hshift).trans (congrArg Host.Outcome.next (startShift_of_dirty hd rfl hl))
  · rw [hb, Option.bind_some, Blink.after_eq]
    cases kind <;> rfl
  · have hlamp : s.outputs.lamps[i] = ⟨(s.outputs.lamps[i]).steady, some ⟨kind, k, left⟩⟩ := by rw [← hb]
    rw [getElem_put_same, hb, Option.bind_some]
    generalize (s.outputs.lamps[i]).steady = steady at hlamp
    rw [hlamp]
    exact Lamp.lit_after kind k left steady
  · exact faultLine_of_no_pulse (by simp [State.pulseMode, State.runs, hr, hp]) rfl

/-! ### The silence timer -/

/-- The end of the last period changes nothing but the silence state and the report of SHOE_SILENT (R134). -/
theorem expireSilence_of_has (h : s.faults.has .shoeSilent = true) :
    expireSilence s = { s with resolver := { s.resolver with silence := .silent } } :=
  setFlag_of_has h

/-- Settles O49: a FED count above 2 is lowered by a period; at 2 both events are `expireSilence`. -/
theorem silenceHoldsTheCrescendo : Obligations.SilenceHoldsTheCrescendo := by
  intro s count left hr hfed
  have hruns := runs_of_running hr
  have hperiod : exec .silencePeriod s = .next
      (if 2 < count then { s with resolver := { s.resolver with silence := .fed (count - 1) 500 } }
       else expireSilence s) := by
    simp only [exec_silencePeriod, execSilencePeriod, hfed, hruns, if_true]
  have hexpiry : exec .silenceExpiry s = if count ≤ 2 then .next (expireSilence s) else .next s := by
    simp only [exec_silenceExpiry, execSilenceExpiry, hfed, hruns, true_and]
  refine ⟨fun h => by rw [hperiod, if_pos h], fun h => by rw [hexpiry, if_neg (by omega)], fun h => ?_⟩
  refine ⟨expireSilence s, by rw [hperiod, if_neg (by omega)], by rw [hexpiry, if_pos h], ?_, ?_, fun hset => ?_⟩
  · exact setFlag_frame _ _
  · exact has_setFlag (live_of_running (s := { s with resolver := { s.resolver with silence := .silent } }) hr)
  · rw [expireSilence_of_has hset]
    exact ⟨rfl, rfl⟩

end

end Sys2Proof.Machine
end

section
/-! PROOF. Contacts and presses that queue or change only their input (O25, O30, O32, O33). -/

namespace Sys2Proof.Machine

section
variable {s : State}

/-! ### Debounced inputs -/

theorem Debounce.comesTo_iff {d : Debounce} {closed : Bool} :
    d.comesTo closed = true ↔ d.timer ≠ none ∧ d.raw = closed := by
  simp [Debounce.comesTo, Option.isSome_iff_ne_none]

theorem Debounce.expire_eq {d : Debounce} {closed : Bool} (h : d.raw = closed) : d.expire = ⟨closed, closed, none⟩ := by
  obtain ⟨raw, value, timer⟩ := d
  subst h
  rfl

theorem State.debounced_eq {c : Contact} {closed : Bool} (h : (s.scanner.input c).raw = closed) :
    s.debounced c = { s with scanner := s.scanner.withInput c ⟨closed, closed, none⟩ } := by
  rw [State.debounced, Debounce.expire_eq h]

theorem pressDue_of_timer {c : Contact} (hr : s.node = .running) (ht : (s.scanner.input c).timer ≠ none)
    (hc : (s.scanner.input c).raw = true) : s.pressDue c = true := by
  rw [State.pressDue, runs_of_running hr, Debounce.comesTo_iff.2 ⟨ht, hc⟩]
  rfl

theorem Debounce.rawChange_of_same {d : Debounce} {ms : Nat} {closed : Bool} (h : closed = d.raw) :
    d.rawChange ms closed = d := if_pos h

theorem Debounce.rawChange_of_change {d : Debounce} {ms : Nat} {closed : Bool} (h : closed ≠ d.raw) :
    d.rawChange ms closed = ⟨closed, d.value, if closed = d.value then none else some ms⟩ := if_neg h

/-- Settles O25: `Debounce.rawChange` in a powered node, the values of a start in one without its supply. -/
theorem contactChangeLoadsTheDebounceTimer : Obligations.ContactChangeLoadsTheDebounceTimer := by
  intro c closed s
  refine ⟨_, rfl, fun hp => ?_, fun hp => by rw [if_neg (by simp [hp])]; rfl⟩
  rw [if_pos hp]
  refine ⟨fun h => Debounce.rawChange_of_same h, fun h hv => ?_, fun h hv => ?_⟩
  · rw [Debounce.rawChange_of_change h, if_pos hv]
  · rw [Debounce.rawChange_of_change h, if_neg hv]
    cases c <;> rfl

/-! ### Offers of one frame -/

theorem offerWithSerial_of_place {b : Byte → Body} (hs : (b s.resolver.serial).isShoe = false)
    (hc : (b s.resolver.serial).isCancel = false) (hp : hasPlace s.link.queue = true) :
    offerWithSerial b s = (advanceSerial (joinQueue (b s.resolver.serial) s), true) := by
  unfold offerWithSerial
  rw [offer_plain hs hc, if_pos hp]

theorem offerWithSerial_of_full {b : Byte → Body} (hs : (b s.resolver.serial).isShoe = false)
    (hc : (b s.resolver.serial).isCancel = false) (hp : hasPlace s.link.queue = false) :
    offerWithSerial b s = (setFlag .txOverflow s, false) := by
  unfold offerWithSerial
  rw [offer_plain hs hc, if_neg (by simp [hp])]

theorem offerWithSerial_fst {b : Byte → Body} (hs : (b s.resolver.serial).isShoe = false)
    (hc : (b s.resolver.serial).isCancel = false) :
    (offerWithSerial b s).1 = if hasPlace s.link.queue then advanceSerial (joinQueue (b s.resolver.serial) s)
      else setFlag .txOverflow s := by
  cases hp : hasPlace s.link.queue
  · rw [offerWithSerial_of_full hs hc hp]; rfl
  · rw [offerWithSerial_of_place hs hc hp]; rfl

theorem offer_plain_fst {b : Body} (hs : b.isShoe = false) (hc : b.isCancel = false) (s : State) :
    (offer b s).1 = if hasPlace s.link.queue then joinQueue b s else setFlag .txOverflow s := by
  rw [offer_plain hs hc]
  split <;> rfl

/-! ### Piston presses -/

theorem setHeld_debounced_piston (i : Fin 16) (s : State) : (s.debounced (.piston i)).setHeld = s.setHeld := rfl

theorem exec_capturePress_of_due {i : Fin 16} {p : Piston} (hp : s.config.pistons[i] = some p)
    (hd : s.pressDue (.piston i) = true) (hs : s.setHeld = true) :
    exec (.capturePress i) s = .next (captureEffect p (s.debounced (.piston i))) := by
  simp only [exec_capturePress, execCapturePress, hp, hd, hs, Bool.and_self, if_true]

theorem captureEffect_of_locked {p : Piston} (h : s.store.locked s.resolver.level = true) :
    captureEffect p s = blinkPiston .fast p s := if_pos h

theorem captureEffect_of_place {p : Piston} (h : s.store.locked s.resolver.level = false)
    (hq : hasPlace s.link.queue = true) :
    captureEffect p s = advanceSerial (joinQueue
      (.capture p.scope (s.divisionFor p) (lowByte p.number) (lowByte s.resolver.level) s.resolver.serial) s) := by
  rw [captureEffect, if_neg (by simpa using h), offerWithSerial_of_place rfl rfl hq]

theorem captureEffect_of_full {p : Piston} (h : s.store.locked s.resolver.level = false)
    (hq : hasPlace s.link.queue = false) :
    captureEffect p s = blinkPiston .fast p (setFlag .txOverflow s) := by
  rw [captureEffect, if_neg (by simpa using h), offerWithSerial_of_full rfl rfl hq]

/-- Settles O30: the three ways a capture press ends. -/
theorem capturePressIsCheckedAndQueued : Obligations.CapturePressIsCheckedAndQueued := by
  intro i p s hr hp ht hraw hset
  have hexec := exec_capturePress_of_due hp (pressDue_of_timer hr ht hraw) hset
  refine ⟨fun hl => ?_, fun hl hq => ?_, fun hl hq => ?_⟩
  · exact hexec.trans (congrArg Host.Outcome.next (captureEffect_of_locked hl))
  · exact hexec.trans (congrArg Host.Outcome.next (captureEffect_of_place hl hq))
  · exact hexec.trans (congrArg Host.Outcome.next (captureEffect_of_full hl hq))

/-! ### Auxiliary presses -/

theorem auxPress_of_due {j : Fin 8} {f : AuxFunction} {effect : State → State} (hr : s.node = .running)
    (ht : (s.scanner.aux[j]).timer ≠ none) (hraw : (s.scanner.aux[j]).raw = true) (hf : s.config.aux[j] = f) :
    auxPress j f effect s = .next (effect (s.debounced (.aux j))) := by
  simp only [auxPress, pressDue_of_timer (c := .aux j) hr ht hraw, hf, beq_self_eq_true, Bool.and_self, if_true]

/-- Settles O32: each press is one offer of an unbound frame. -/
theorem lateBoundPressesQueueTheirFrame : Obligations.LateBoundPressesQueueTheirFrame := by
  intro j s hr ht hraw
  refine ⟨fun hf => ?_, fun hf => ?_, fun hf => ?_, fun hf => ?_, fun hf => ?_⟩
  · rw [exec_stepNextPress, execStepNextPress, auxPress_of_due hr ht hraw hf, offerWithSerial_fst rfl rfl]
    rfl
  · rw [exec_stepPrevPress, execStepPrevPress, auxPress_of_due hr ht hraw hf, offerWithSerial_fst rfl rfl]
    rfl
  · rw [exec_levelUpPress, execLevelUpPress, auxPress_of_due hr ht hraw hf, offer_plain_fst rfl rfl]
    rfl
  · rw [exec_levelDownPress, execLevelDownPress, auxPress_of_due hr ht hraw hf, offer_plain_fst rfl rfl]
    rfl
  · rw [exec_tuttiPress, execTuttiPress, auxPress_of_due hr ht hraw hf, offer_plain_fst rfl rfl]
    rfl

theorem exec_programPress_of_due {j : Fin 8} {k : Fin 4} (hr : s.node = .running)
    (ht : (s.scanner.aux[j]).timer ≠ none) (hraw : (s.scanner.aux[j]).raw = true) (hf : s.config.aux[j] = .program k) :
    exec (.programPress j) s = .next (programEffect k (s.debounced (.aux j))) := by
  rw [exec_programPress, execProgramPress]
  simp only [hf]
  exact auxPress_of_due hr ht hraw hf

/-- Settles O33: a latch press is `State.debounced`, and a program press is `programEffect` of an ACTIVE unit. -/
theorem latchAndProgramPresses : Obligations.LatchAndProgramPresses := by
  refine ⟨fun s => ⟨fun j hr ht hraw hf => ?_, fun c hc hp ht hraw => ?_, fun c hc hp ht hraw heff => ?_⟩,
    fun j k s hr ht hraw hf => ⟨fun hu hc hk => ?_, fun h => ?_⟩⟩
  · rw [exec_setPress, execSetPress, auxPress_of_due hr ht hraw hf, State.debounced_eq (c := .aux j) hraw]
    rfl
  · rw [exec_pistonRelease, execPistonRelease, hc, hp, Debounce.comesTo_iff.2 ⟨ht, hraw⟩, State.debounced_eq hraw]
    rfl
  · have hnone : s.pressHasNoEffect c = true := by
      rcases heff with hn | h
      · simp [State.pressHasNoEffect, State.runs, hn]
      · exact h
    rw [exec_pressIgnored, execPressIgnored, hc, hp, Debounce.comesTo_iff.2 ⟨ht, hraw⟩, hnone, State.debounced_eq hraw]
    rfl
  · have hactive : (s.debounced (.aux j)).activeShoe.isSome = true := by
      rw [activeShoe_of_active (s := s.debounced (.aux j)) hr hu]
      exact Option.isSome_iff_ne_none.2 hc
    rw [exec_programPress_of_due hr ht hraw hf, programEffect, if_pos ⟨hactive, hk⟩]
    rfl
  · rw [exec_programPress_of_due hr ht hraw hf, programEffect, if_neg]
    rintro ⟨hactive, hk⟩
    exact h.elim (fun hu => hu (activeShoe_isSome hactive).2) (fun he => hk he)

end

end Sys2Proof.Machine
end

section
/-! PROOF. What a report and an offer do in each case, the departure check, the queue's order and the presses that may
coalesce or evict (O27, O28, O29, O31, O38). -/

namespace Sys2Proof.Machine

section
variable {s : State}

/-! ### A FAULT-NOTE call, case by case -/

theorem noteCall_of_pending (h : s.faults.notePending = true) : noteCall s = s := if_pos h

theorem noteCall_of_held (h : s.faults.notePending = false) (hn : holdsNote s.link.queue = true) :
    noteCall s = setNotePending false { s with link := { s.link with queue := mergeNote s.link.queue } } := by
  rw [noteCall, if_neg (by simp [h]), offerNote, if_pos (by simpa using hn)]
  rfl

theorem noteCall_of_place (h : s.faults.notePending = false) (hn : holdsNote s.link.queue = false)
    (hp : hasPlace s.link.queue = true) : noteCall s = joinQueue .faultNote (setNotePending false s) := by
  rw [noteCall, if_neg (by simp [h]), offerNote, if_neg (by simpa using hn), if_pos (by simpa using hp)]
  rfl

theorem noteCall_of_full (h : s.faults.notePending = false) (hn : holdsNote s.link.queue = false)
    (hp : hasPlace s.link.queue = false) :
    noteCall s =
      if s.faults.has .txOverflow then setNotePending true s else raiseFlag .txOverflow (setNotePending true s) := by
  rw [noteCall, if_neg (by simp [h]), offerNote, if_neg (by simpa using hn), if_neg (by simpa using hp)]
  simp only [setNotePending, Bool.true_and]
  rfl

theorem setFlag_of_new {f : Flag} (hl : s.live = true) (hf : s.faults.has f = false) :
    setFlag f s = noteCall (raiseFlag f s) := by
  simp [setFlag, hl, hf]

/-- What a FAULT-NOTE call may do to the fault set: mark or clear what is owed, and raise TX_OVERFLOW (R199). -/
theorem noteCall_faults (s : State) :
    (noteCall s).faults = s.faults ∨ (∃ p, (noteCall s).faults = (setNotePending p s).faults) ∨
      (noteCall s).faults = (raiseFlag .txOverflow (setNotePending true s)).faults := by
  rcases noteCall_cases s with ⟨-, e⟩ | ⟨h, -⟩
  · exact .inl (congrArg State.faults e)
  · cases hn : holdsNote s.link.queue
    · cases hp : hasPlace s.link.queue
      · rw [noteCall_of_full h hn hp]
        split
        · exact .inr (.inl ⟨true, rfl⟩)
        · exact .inr (.inr rfl)
      · rw [noteCall_of_place h hn hp, joinQueue_faults]
        exact .inr (.inl ⟨false, rfl⟩)
    · rw [noteCall_of_held h hn]
      exact .inr (.inl ⟨false, rfl⟩)

/-- A new flag's pulse, cause and count: a further report of TX_OVERFLOW loads the same pulse (R198). -/
theorem setFlag_pulse_cause_count {f : Flag} (hl : s.live = true) (hf : s.faults.has f = false) :
    (setFlag f s).faults.pulse = (if s.pulseMode then some 50 else s.faults.pulse) ∧
      (setFlag f s).faults.cause = s.faults.cause ∧ (setFlag f s).faults.stuckCount = s.faults.stuckCount := by
  rw [setFlag_of_new hl hf]
  rcases noteCall_faults (raiseFlag f s) with e | ⟨p, e⟩ | e <;> rw [e]
  · exact ⟨rfl, rfl, rfl⟩
  · exact ⟨rfl, rfl, rfl⟩
  · refine ⟨?_, rfl, rfl⟩
    change (if s.pulseMode then some 50 else if s.pulseMode then some 50 else s.faults.pulse) = _
    cases s.pulseMode <;> rfl

/-- Settles O38: a report changes nothing, or raises its flag and makes a call, which ends in one of four ways. -/
theorem newFlagMakesACall : Obligations.NewFlagMakesACall := by
  intro f s
  refine ⟨fun h => ?_, fun hl hf => ?_⟩
  · rcases setFlag_cases f s with ⟨-, e⟩ | ⟨hl, hf, -⟩
    · exact e
    · simp [hl, hf] at h
  · have hnew := setFlag_of_new hl hf
    obtain ⟨hpulse, hcause, hcount⟩ := setFlag_pulse_cause_count hl hf
    refine ⟨has_setFlag hl, fun g h hg => setFlag_has_other h hg s, ?_, hcause, hcount, setFlag_frame f s,
      fun hp => ?_, fun hp hn => ?_, fun hp hn hq => ?_, fun hp hn hq => ?_⟩
    · simpa [State.pulseMode, State.runs] using hpulse
    · rw [hnew, noteCall_of_pending (s := raiseFlag f s) hp]
      exact ⟨rfl, hp⟩
    · rw [hnew, noteCall_of_held (s := raiseFlag f s) hp hn]
      exact ⟨rfl, rfl⟩
    · rw [hnew, noteCall_of_place (s := raiseFlag f s) hp hn hq]
      exact ⟨rfl, by rw [joinQueue_faults]; rfl⟩
    · have hover : (setFlag f s).faults.has .txOverflow = true ∧ (setFlag f s).faults.notePending = true ∧
          (setFlag f s).link = s.link := by
        rw [hnew, noteCall_of_full (s := raiseFlag f s) hp hn hq]
        split
        · exact ⟨‹_›, rfl, rfl⟩
        · exact ⟨has_raiseFlag _ _, rfl, rfl⟩
      exact ⟨hover.2.2, hover.2.1, hover.1⟩

/-! ### The departure check -/

/-- A reference disagrees where a counted stop contradicts it (R28). -/
theorem Reference.disagrees_iff {r : Reference} {counted drawn : StopSet} :
    r.disagrees counted drawn = true ↔ ∃ n : StopNo, counted[n] = true ∧
      ((r.entries[n] = .draw ∧ drawn[n] = false) ∨ (r.entries[n] = .retire ∧ drawn[n] = true)) := by
  simp only [Reference.disagrees, List.any_eq_true, List.mem_finRange, true_and, Bool.and_eq_true]
  refine exists_congr fun n => and_congr_right fun _ => ?_
  cases r.entries[n] <;> simp

theorem disagrees_generalCounted {r : Reference} :
    r.disagrees s.generalCounted s.resolver.drawn = true ↔
      ∃ n : StopNo, s.config.excluded[n] = false ∧ s.contradicts r n := by
  simp only [Reference.disagrees_iff, State.generalCounted, getElem_table_fin, State.serves, Bool.and_eq_true,
    decide_eq_true_eq, Bool.not_eq_true', State.contradicts]
  exact exists_congr fun n => by tauto

theorem disagrees_divisionalCounted {r : Reference} :
    r.disagrees s.divisionalCounted s.resolver.drawn = true ↔ ∃ n : StopNo, s.contradicts r n := by
  simp only [Reference.disagrees_iff, State.divisionalCounted, getElem_table_fin, State.serves, decide_eq_true_eq,
    State.contradicts]

theorem checkGeneral_of_none (h : s.resolver.general = none) : checkGeneral s = s := by
  rw [checkGeneral, h]

theorem checkGeneral_of_agreed {r : Reference} (h : s.resolver.general = some r)
    (ha : (!r.departed && r.disagrees s.generalCounted s.resolver.drawn) = false) : checkGeneral s = s := by
  simp only [checkGeneral, h, ha, Bool.false_eq_true, if_false]

theorem checkGeneral_of_departs {r : Reference} (h : s.resolver.general = some r)
    (ha : (!r.departed && r.disagrees s.generalCounted s.resolver.drawn) = true) :
    checkGeneral s = if hasPlace s.link.queue then
        { joinQueue (.deviate .general r.tag) s with
          resolver := { s.resolver with general := some { r with departed := true } } }
      else setFlag .txOverflow s := by
  simp only [checkGeneral, h, ha, if_true, offer_plain (b := .deviate .general r.tag) rfl rfl]
  cases hasPlace s.link.queue
  · rfl
  · simp only [if_true, joinQueue_resolver]

theorem checkDivisional_of_none (h : s.resolver.divisional = none) : checkDivisional s = s := by
  rw [checkDivisional, h]

theorem checkDivisional_of_agreed {r : Reference} (h : s.resolver.divisional = some r)
    (ha : (!r.departed && r.disagrees s.divisionalCounted s.resolver.drawn) = false) : checkDivisional s = s := by
  simp only [checkDivisional, h, ha, Bool.false_eq_true, if_false]

theorem checkDivisional_of_departs {r : Reference} (h : s.resolver.divisional = some r)
    (ha : (!r.departed && r.disagrees s.divisionalCounted s.resolver.drawn) = true) :
    checkDivisional s = if hasPlace s.link.queue then
        { joinQueue (.deviate .divisional r.tag) s with
          resolver := { s.resolver with divisional := some { r with departed := true } } }
      else setFlag .txOverflow s := by
  simp only [checkDivisional, h, ha, if_true, offer_plain (b := .deviate .divisional r.tag) rfl rfl]
  cases hasPlace s.link.queue
  · rfl
  · simp only [if_true, joinQueue_resolver]

/-- Whether a reference that is present departs (R27, R28). -/
theorem departs_eq_false {departed disagrees : Bool} {P : Prop} (hd : disagrees = true ↔ P) (h : departed = true ∨ ¬ P) :
    (!departed && disagrees) = false := by
  rcases h with h | h
  · simp [h]
  · simp [Bool.eq_false_iff.2 (mt hd.1 h)]

theorem departs_eq_true {departed disagrees : Bool} {P : Prop} (hd : disagrees = true ↔ P) (h : departed = false) (hp : P) :
    (!departed && disagrees) = true := by simp [h, hd.2 hp]

/-- Settles O27, for each of the two references. -/
theorem departureCheckOffersADeviate : Obligations.DepartureCheckOffersADeviate := by
  intro s hl
  refine ⟨checkGeneral_of_none, fun r hr => ⟨fun h => ?_, fun hdep hex => ?_⟩,
    checkDivisional_of_none, fun r hr => ⟨fun h => ?_, fun hdep hex => ?_⟩⟩
  · exact checkGeneral_of_agreed hr (departs_eq_false disagrees_generalCounted h)
  · rw [checkGeneral_of_departs hr (departs_eq_true disagrees_generalCounted hdep hex)]
    exact ⟨fun hp => if_pos hp, fun hp => by rw [if_neg (by simp [hp])]; exact ⟨rfl, has_setFlag hl⟩⟩
  · exact checkDivisional_of_agreed hr (departs_eq_false disagrees_divisionalCounted h)
  · rw [checkDivisional_of_departs hr (departs_eq_true disagrees_divisionalCounted hdep hex)]
    exact ⟨fun hp => if_pos hp, fun hp => by rw [if_neg (by simp [hp])]; exact ⟨rfl, has_setFlag hl⟩⟩

end

end Sys2Proof.Machine
end

section
/-! PROOF. A frame that joins the queue, a SHOE updated in place, and the presses that coalesce or evict (O28, O29,
O31). -/

namespace Sys2Proof.Machine

section
variable {s : State}

/-! ### Joining the queue -/

/-- The entry a frame joins the queue as (R181). -/
def Link.newEntry (l : Link) (b : Body) : QueueEntry := ⟨b, l.admitted, false, false⟩

theorem joinQueue_eq_startAttempt (b : Body) (s : State) : joinQueue b s =
    startAttempt { s with link := { s.link with
      queue := insertEntry (s.link.newEntry b) s.link.queue, admitted := s.link.admitted + 1 } } := rfl

/-- Against older entries, only one of a higher class waits behind the newest (R181). -/
theorem newEntry_before {b : Body} {f : QueueEntry} (h : QueueWf s.link.queue s.link.admitted) (hf : f ∈ s.link.queue) :
    (s.link.newEntry b).before f = true ↔ b.cls < f.body.cls :=
  QueueEntry.before_of_younger (h.older f hf)

theorem joinQueue_splits {b : Body} (h : s.queueLaw) (hline : s.link.line ≠ .idle) :
    ∃ before after, s.link.queue = before ++ after ∧
      joinQueue b s = { s with link := { s.link with
        queue := before ++ s.link.newEntry b :: after, admitted := s.link.admitted + 1 } } ∧
      (∀ f ∈ after, f.underWay = false ∧ b.cls < f.body.cls) ∧ ∀ f ∈ before, f.underWay = true ∨ f.body.cls ≤ b.cls := by
  have hwf := State.queueLaw_iff.1 h
  obtain ⟨before, after, hsplit, hins, hafter, hbefore⟩ := insertEntry_split hwf.order (s.link.newEntry b)
  refine ⟨before, after, hsplit, ?_, fun f hf => ?_, fun f hf => ?_⟩
  · rw [joinQueue_of_line hline, ← Link.newEntry, hins]
  · obtain ⟨hw, hb⟩ := hafter f hf
    exact ⟨hw, (newEntry_before hwf (by simp [hsplit, hf])).1 hb⟩
  · refine (hbefore f hf).imp_right fun hb => ?_
    have := mt (newEntry_before (b := b) hwf (f := f) (by simp [hsplit, hf])).2 (by simp [hb])
    omega

/-- On an idle link the only frame of the queue is under way at once (R170). -/
theorem joinQueue_of_idle {b : Body} (hline : s.link.line = .idle) (hq : s.link.queue = []) (hl : s.live = true) :
    joinQueue b s = { s with
      link := ⟨.frame, some (b.frame s), [⟨b, s.link.admitted, true, false⟩], s.link.admitted + 1⟩ } := by
  rw [joinQueue_eq_startAttempt, hq]
  rw [startAttempt_of_idle (e := s.link.newEntry b) (q := []) (s := { s with link := { s.link with
    queue := insertEntry (s.link.newEntry b) [], admitted := s.link.admitted + 1 } }) hl hline rfl]
  cases b <;> rfl

/-- A SHOE in the queue takes the offered program and stage where it stands (R183). -/
theorem updateShoe_getElem? {q : List QueueEntry} {i : Nat} {e : QueueEntry} (p k : Byte) (h : q[i]? = some e) :
    (updateShoe p k q)[i]? = some { e with body := e.body.updated p k } := by
  simp [updateShoe, h]

theorem offer_shoe_of_held {d : Division} {p k : Byte} (h : holdsShoe s.link.queue = true) :
    offer (.shoe d p k) s = ({ s with link := { s.link with queue := updateShoe p k s.link.queue } }, true) := by
  rw [offer_shoe, if_pos h]

/-- Settles O28. -/
theorem offersKeepTheQueueOrder : Obligations.OffersKeepTheQueueOrder := by
  refine ⟨fun b s h => ⟨joinQueue_splits h, joinQueue_of_idle⟩, fun d p k s => ⟨fun h => ?_, fun h hp => ?_, fun h hp => ?_⟩⟩
  · rw [offer_shoe_of_held h]
    refine ⟨rfl, updateShoe_length p k _, fun i e he => ?_⟩
    rw [updateShoe_getElem? p k he]
    obtain ⟨b, age, underWay, merged⟩ := e
    cases b <;> rfl
  · rw [offer_shoe, if_neg (by simp [h]), if_pos hp]
  · rw [offer_shoe, if_neg (by simp [h]), if_neg (by simp [hp])]

/-! ### A CANCEL in a full queue -/

/-- Of the frames not under way the victim goes last (R185). -/
theorem before_evictionVictim {q : List QueueEntry} (hages : (q.map QueueEntry.age).Nodup) :
    ∀ v, evictionVictim q = some v → ∀ e ∈ q, e.underWay = false → e = v ∨ e.before v = true := by
  induction q with
  | nil => nofun
  | cons e q ih =>
    obtain ⟨hage, hages⟩ := List.nodup_cons.1 hages
    intro v hv f hf hw
    rw [evictionVictim] at hv
    cases hu : e.underWay with
    | true =>
      rw [if_pos hu] at hv
      rcases List.mem_cons.1 hf with rfl | hf
      · simp [hu] at hw
      · exact ih hages v hv f hf hw
    | false =>
      rw [if_neg (by simp [hu])] at hv
      cases hvq : evictionVictim q with
      | none =>
        simp only [hvq, Option.some.injEq] at hv
        rcases List.mem_cons.1 hf with rfl | hf
        · exact .inl hv
        · simp [evictionVictim_spec.1 hvq f hf] at hw
      | some w =>
        have hwq : w ∈ q := (evictionVictim_spec.2 w hvq).1
        have hne : e.age ≠ w.age := fun h => hage (h ▸ List.mem_map_of_mem hwq)
        cases hb : e.before w with
        | true =>
          simp only [hvq, hb, if_true, Option.some.injEq] at hv
          subst hv
          rcases List.mem_cons.1 hf with rfl | hf
          · exact .inr hb
          · exact ih hages w hvq f hf hw
        | false =>
          simp only [hvq, hb, Bool.false_eq_true, if_false, Option.some.injEq] at hv
          subst hv
          have hwe := QueueEntry.before_of_not_before hne hb
          rcases List.mem_cons.1 hf with rfl | hf
          · exact .inl rfl
          · rcases ih hages w hvq f hf hw with rfl | h
            · exact .inr hwe
            · exact .inr (QueueEntry.before_trans h hwe)

theorem mem_mergeNote {e : QueueEntry} {q : List QueueEntry} (h : e ∈ mergeNote q) :
    e ∈ q ∨ ∃ f ∈ q, f.body.isNote = true ∧ f.underWay = true ∧ e = { f with merged := true } := by
  obtain ⟨f, hf, rfl⟩ := List.mem_map.1 h
  split
  · rename_i hn
    obtain ⟨hnote, hway⟩ := Bool.and_eq_true_iff.1 hn
    exact .inr ⟨f, hf, hnote, hway, rfl⟩
  · exact .inl hf

theorem mem_mergeNote_of_waiting {e : QueueEntry} {q : List QueueEntry} (he : e ∈ q) (hw : e.underWay = false) :
    e ∈ mergeNote q := List.mem_map.2 ⟨e, he, by simp [hw]⟩

/-- A call at a full queue leaves the queue's entries, but for the mark of a FAULT-NOTE under way (R184, R199). -/
theorem noteCall_queue_of_full (h : hasPlace s.link.queue = false) :
    (noteCall s).link.queue = s.link.queue ∨ (noteCall s).link.queue = mergeNote s.link.queue := by
  cases hp : s.faults.notePending
  · cases hn : holdsNote s.link.queue
    · rw [noteCall_of_full hp hn h]
      split <;> exact .inl rfl
    · rw [noteCall_of_held hp hn]
      exact .inr rfl
  · rw [noteCall_of_pending hp]
    exact .inl rfl

theorem setFlag_queue_of_full (f : Flag) (h : hasPlace s.link.queue = false) :
    (setFlag f s).link.queue = s.link.queue ∨ (setFlag f s).link.queue = mergeNote s.link.queue := by
  rcases setFlag_cases f s with ⟨-, e⟩ | ⟨-, -, e⟩ <;> rw [e]
  · exact .inl rfl
  · exact noteCall_queue_of_full (s := raiseFlag f s) h

/-- A FAULT-NOTE that is owed stays owed through a report (R199). -/
theorem setFlag_notePending {f : Flag} (h : s.faults.notePending = true) : (setFlag f s).faults.notePending = true := by
  rcases setFlag_cases f s with ⟨-, e⟩ | ⟨-, -, e⟩ <;> rw [e]
  · exact h
  · rw [noteCall_of_pending (s := raiseFlag f s) h]
    exact h

/-- The state once the victim has left the queue (R185). -/
def State.without (s : State) (v : QueueEntry) : State :=
  { s with link := { s.link with queue := s.link.queue.erase v } }

/-- The state in which an eviction reports TX_OVERFLOW: the victim has left and the CANCEL has joined (R185, R201). -/
def State.evicted (s : State) (v : QueueEntry) (b : Body) : State :=
  let t := joinQueue b (s.without v)
  if v.body.isNote then setNotePending true t else t

theorem evictFor_of_victim {b : Body} {v : QueueEntry} (h : evictionVictim s.link.queue = some v) :
    evictFor b s = setFlag .txOverflow (s.evicted v b) := by
  rw [evictFor, h]
  rfl

theorem evicted_queue (v : QueueEntry) (b : Body) (h : s.link.line ≠ .idle) :
    (s.evicted v b).link.queue = insertEntry (s.link.newEntry b) (s.link.queue.erase v) := by
  unfold State.evicted
  dsimp only
  rw [joinQueue_of_line (s := s.without v) h]
  split <;> rfl

theorem evicted_live (v : QueueEntry) (b : Body) : (s.evicted v b).live = s.live := by
  refine live_congr ?_
  unfold State.evicted
  dsimp only
  split <;> simp [State.without]

/-- In a full queue at most one frame is under way, so that one can leave (R181, R185). -/
theorem exists_evictionVictim (h : QueueWf s.link.queue s.link.admitted) (hfull : s.link.queue.length = 8) :
    ∃ v, evictionVictim s.link.queue = some v := by
  rw [← Option.isSome_iff_exists, Option.isSome_iff_ne_none]
  intro hnone
  have hall := evictionVictim_spec.1 hnone
  obtain ⟨e, f, q, hq⟩ : ∃ e f q, s.link.queue = e :: f :: q := by
    match hq : s.link.queue, hfull with
    | e :: f :: q, _ => exact ⟨e, f, q, rfl⟩
  have hwait := (waitInOrder_tail (hq ▸ h.order)).waiting f (by simp)
  simp [hall f (by simp [hq])] at hwait

/-- The full queue after an eviction: the victim has left it, the CANCEL stands in it (R185). -/
theorem mem_evicted_queue {v : QueueEntry} {b : Body} (h : QueueWf s.link.queue s.link.admitted)
    (hline : s.link.line ≠ .idle) {e : QueueEntry} :
    e ∈ (s.evicted v b).link.queue ↔ e = s.link.newEntry b ∨ e ≠ v ∧ e ∈ s.link.queue := by
  rw [evicted_queue v b hline, mem_insertEntry, (List.Nodup.of_map _ h.ages).mem_erase_iff]

theorem evicted_queue_length {v : QueueEntry} {b : Body} (hline : s.link.line ≠ .idle) (hv : v ∈ s.link.queue) :
    (s.evicted v b).link.queue.length = s.link.queue.length := by
  have := List.length_pos_of_mem hv
  rw [evicted_queue v b hline, (insertEntry_perm _ _).length_eq, List.length_cons, List.length_erase_of_mem hv]
  omega

theorem mergeNote_length (q : List QueueEntry) : (mergeNote q).length = q.length := List.length_map _

/-- What an eviction at a full queue leaves in it, whatever the FAULT-NOTE call of TX_OVERFLOW does (R185). -/
theorem evictFor_queue {b : Body} {v : QueueEntry} (h : QueueWf s.link.queue s.link.admitted)
    (hfull : s.link.queue.length = 8) (hline : s.link.line ≠ .idle) (hv : evictionVictim s.link.queue = some v) :
    (evictFor b s).link.queue.length = 8 ∧
      (∀ e ∈ (evictFor b s).link.queue, e = s.link.newEntry b ∨ e ∈ s.link.queue ∨
        ∃ f ∈ s.link.queue, f.body.isNote = true ∧ f.underWay = true ∧ e = { f with merged := true }) ∧
      s.link.newEntry b ∈ (evictFor b s).link.queue ∧ v ∉ (evictFor b s).link.queue := by
  obtain ⟨hmem, hwait⟩ := evictionVictim_spec.2 v hv
  have hnew : s.link.newEntry b ≠ v := fun he => (h.older v hmem).ne (congrArg QueueEntry.age he).symm
  have hlen := (evicted_queue_length (b := b) hline hmem).trans hfull
  rw [evictFor_of_victim hv]
  have hplace : hasPlace (s.evicted v b).link.queue = false := by simp [hasPlace, hlen, queueLimit]
  rcases setFlag_queue_of_full .txOverflow hplace with e | e <;> rw [e]
  · refine ⟨hlen, fun e he => ?_, (mem_evicted_queue h hline).2 (.inl rfl), fun hv' => ?_⟩
    · exact ((mem_evicted_queue h hline).1 he).imp_right fun he => .inl he.2
    · exact ((mem_evicted_queue h hline).1 hv').elim (fun he => hnew he.symm) fun he => he.1 rfl
  · refine ⟨(mergeNote_length _).trans hlen, fun e he => ?_,
      mem_mergeNote_of_waiting ((mem_evicted_queue h hline).2 (.inl rfl)) rfl, fun hv' => ?_⟩
    · rcases mem_mergeNote he with he | ⟨f, hf, hnote, hway, rfl⟩
      · exact ((mem_evicted_queue h hline).1 he).imp_right fun he => .inl he.2
      · rcases (mem_evicted_queue h hline).1 hf with rfl | ⟨-, hf⟩
        · exact absurd hway (by simp [Link.newEntry])
        · exact .inr (.inr ⟨f, hf, hnote, hway, rfl⟩)
    · rcases mem_mergeNote hv' with hv' | ⟨f, -, -, hway, he⟩
      · exact ((mem_evicted_queue h hline).1 hv').elim (fun he => hnew he.symm) fun he => he.1 rfl
      · have := congrArg QueueEntry.underWay he
        simp [hwait, hway] at this

theorem evictFor_notePending {b : Body} {v : QueueEntry} (hv : evictionVictim s.link.queue = some v)
    (hnote : v.body.isNote = true) : (evictFor b s).faults.notePending = true := by
  rw [evictFor_of_victim hv]
  refine setFlag_notePending ?_
  simp [State.evicted, hnote, setNotePending]

theorem exec_generalCancelPress_of_due {j : Fin 8} (hr : s.node = .running) (ht : (s.scanner.aux[j]).timer ≠ none)
    (hraw : (s.scanner.aux[j]).raw = true) (hf : s.config.aux[j] = .generalCancel) :
    exec (.generalCancelPress j) s =
      .next (offer (.cancel .general (divisionByte s.straps.division)) (s.debounced (.aux j))).1 := by
  rw [exec_generalCancelPress, execGeneralCancelPress, auxPress_of_due hr ht hraw hf]
  rfl

theorem exec_divisionalCancelPress_of_due {j : Fin 8} {d : Division} (hr : s.node = .running)
    (ht : (s.scanner.aux[j]).timer ≠ none) (hraw : (s.scanner.aux[j]).raw = true)
    (hf : s.config.aux[j] = .divisionalCancel d) :
    exec (.divisionalCancelPress j) s = .next (offer (.cancel .divisional (divisionByte d)) (s.debounced (.aux j))).1 := by
  rw [exec_divisionalCancelPress, execDivisionalCancelPress]
  simp only [hf]
  exact auxPress_of_due hr ht hraw hf

theorem offer_cancel_fst (sc : Scope) (d : Byte) (s : State) : (offer (.cancel sc d) s).1 =
    if hasPlace s.link.queue then joinQueue (.cancel sc d) s else evictFor (.cancel sc d) s := by
  rw [offer_cancel]
  split <;> rfl

/-- Settles O31: a press offers its CANCEL, and an eviction takes the victim's place for it. -/
theorem cancelPressesAlwaysReachTheQueue : Obligations.CancelPressesAlwaysReachTheQueue := by
  refine ⟨fun j s hr ht hraw => ⟨fun hf => ?_, fun d hf => ?_⟩, fun sc d s h hfull hl hline => ?_⟩
  · rw [exec_generalCancelPress_of_due hr ht hraw hf, offer_cancel_fst]
    rfl
  · rw [exec_divisionalCancelPress_of_due hr ht hraw hf, offer_cancel_fst]
    rfl
  · have hwf := State.queueLaw_iff.1 h
    obtain ⟨v, hv⟩ := exists_evictionVictim hwf hfull
    obtain ⟨hmem, hwait⟩ := evictionVictim_spec.2 v hv
    obtain ⟨hlen, hentries, hnew, hgone⟩ := evictFor_queue (b := .cancel sc d) hwf hfull hline hv
    refine ⟨v, hmem, hwait, before_evictionVictim hwf.ages v hv, hlen, hentries, hnew, hgone, ?_,
      evictFor_notePending hv, evictFor_frame _ s⟩
    rw [evictFor_of_victim hv]
    exact has_setFlag ((evicted_live v _).trans hl)

/-! ### RECALL presses -/

/-- The first waiting press RECALL that matches takes the new fields and keeps its place and age (R154). -/
theorem rewritePress_of_first {scope : Scope} {division piston level serial : Byte} {before after : List QueueEntry}
    {e : QueueEntry} (hw : e.underWay = false) (hm : e.matchesPress scope division = true)
    (hb : ∀ f ∈ before, f.matchesPress scope division = true → f.underWay = true) :
    rewritePress scope division piston level serial (before ++ e :: after) =
      some (before ++ { e with body := .recall scope division piston level serial } :: after) := by
  induction before with
  | nil => simp [rewritePress, hw, hm]
  | cons f before ih =>
    obtain ⟨hf, hb⟩ := List.forall_mem_cons.1 hb
    have hskip : (f.matchesPress scope division && !f.underWay) = false := by
      cases hm : f.matchesPress scope division
      · rfl
      · simp [hf hm]
    simp [rewritePress, hskip, ih hb]

/-- No press RECALL that matches waits, so none is rewritten (R154). -/
theorem rewritePress_of_none {scope : Scope} {division piston level serial : Byte} {q : List QueueEntry}
    (h : ∀ e ∈ q, e.matchesPress scope division = true → e.underWay = true) :
    rewritePress scope division piston level serial q = none := by
  induction q with
  | nil => rfl
  | cons e q ih =>
    obtain ⟨he, h⟩ := List.forall_mem_cons.1 h
    have hskip : (e.matchesPress scope division && !e.underWay) = false := by
      cases hm : e.matchesPress scope division
      · rfl
      · simp [he hm]
    simp [rewritePress, hskip, ih h]

/-- A press RECALL as a press makes it now, with the serial it takes (R153). -/
def State.pressBody (s : State) (p : Piston) (serial : Byte) : Body :=
  .recall p.scope (s.divisionFor p) (lowByte p.number) (lowByte s.resolver.level) serial

/-- A press RECALL offered as a new frame (R3, R153). -/
def State.pressOffered (s : State) (p : Piston) : State :=
  if hasPlace s.link.queue then advanceSerial (joinQueue (s.pressBody p s.resolver.serial) s) else setFlag .txOverflow s

theorem offerWithSerial_pressBody (p : Piston) (s : State) :
    (offerWithSerial (s.pressBody p) s).1 = s.pressOffered p :=
  offerWithSerial_fst rfl rfl

theorem recallEffect_of_no_match {p : Piston}
    (h : (s.link.queue.any fun e => e.matchesPress p.scope (s.divisionFor p)) = false) :
    recallEffect p s = s.pressOffered p := by
  simp only [recallEffect, h, Bool.false_eq_true, if_false]
  exact offerWithSerial_pressBody p s

theorem recallEffect_of_dropped {p : Piston}
    (h : (s.link.queue.any fun e => e.matchesPress p.scope (s.divisionFor p)) = true)
    (hc : s.config.coalesceLast = false) : recallEffect p s = s := by
  simp only [recallEffect, h, hc, Bool.false_eq_true, if_false, if_true]

theorem recallEffect_of_rewritten {p : Piston} {q : List QueueEntry}
    (h : (s.link.queue.any fun e => e.matchesPress p.scope (s.divisionFor p)) = true)
    (hc : s.config.coalesceLast = true)
    (hq : rewritePress p.scope (s.divisionFor p) (lowByte p.number) (lowByte s.resolver.level) s.resolver.serial
      s.link.queue = some q) :
    recallEffect p s = advanceSerial { s with link := { s.link with queue := q } } := by
  simp only [recallEffect, h, hc, hq, if_true]

theorem recallEffect_of_none_waiting {p : Piston}
    (h : (s.link.queue.any fun e => e.matchesPress p.scope (s.divisionFor p)) = true)
    (hc : s.config.coalesceLast = true)
    (hq : rewritePress p.scope (s.divisionFor p) (lowByte p.number) (lowByte s.resolver.level) s.resolver.serial
      s.link.queue = none) : recallEffect p s = s.pressOffered p := by
  simp only [recallEffect, h, hc, hq, if_true]
  exact offerWithSerial_pressBody p s

theorem exec_recallPress_of_due {i : Fin 16} {p : Piston} (hr : s.node = .running) (hp : s.config.pistons[i] = some p)
    (ht : (s.scanner.pistons[i]).timer ≠ none) (hraw : (s.scanner.pistons[i]).raw = true) (hs : s.setHeld = false) :
    exec (.recallPress i) s = .next (recallEffect p (s.debounced (.piston i))) := by
  simp only [exec_recallPress, execRecallPress, hp, pressDue_of_timer (c := .piston i) hr ht hraw, hs, Bool.not_false,
    Bool.and_self, if_true]

/-- Settles O29: the press is offered, dropped, or rewrites the oldest one that waits. -/
theorem recallPressOffersOrCoalesces : Obligations.RecallPressOffersOrCoalesces := by
  refine ⟨fun i p s hr hp ht hraw hset hnone => ?_, fun i p s hr hp ht hraw hset hsome => ?_⟩ <;>
    have hexec := exec_recallPress_of_due hr hp ht hraw hset
  · have hno := recallEffect_of_no_match (s := s.debounced (.piston i)) (p := p)
      (List.any_eq_false.2 fun e he => Bool.not_eq_true _ ▸ hnone e he)
    rw [hexec, hno]
    exact ⟨fun hq => congrArg Host.Outcome.next (if_pos hq),
      fun hq => congrArg Host.Outcome.next (if_neg (by simp [hq]))⟩
  · have hany : ((s.debounced (.piston i)).link.queue.any fun e =>
        e.matchesPress p.scope ((s.debounced (.piston i)).divisionFor p)) = true := List.any_eq_true.2 hsome
    refine ⟨fun hc => ?_, fun before e after hc hq hw hm hb => ?_, fun hc hall => ?_⟩
    · rw [hexec, recallEffect_of_dropped hany hc]
    · exact hexec.trans (congrArg Host.Outcome.next
        (recallEffect_of_rewritten hany hc ((congrArg _ hq).trans (rewritePress_of_first hw hm hb))))
    · exact hexec.trans (congrArg Host.Outcome.next (recallEffect_of_none_waiting hany hc (rewritePress_of_none hall)))

end

end Sys2Proof.Machine
end

section
/-! PROOF. Frames as commands: what a command reads back from its own frame, who takes it, who acts on it, and who turns
it away (O4, O39, O40, O41, O53). -/

namespace Sys2Proof.Machine

section
variable {s t : State} {c : Instr} {f : RawFrame}

/-! ### The kind of a frame -/

theorem kindOfCode_code (k : FrameKind) : kindOfCode k.code = some k := by cases k <;> decide

@[simp] theorem frame_payload (k : FrameKind) (a : Address) (p : List Byte) : (k.frame a p).payload = p := rfl
@[simp] theorem frame_sender (k : FrameKind) (a : Address) (p : List Byte) : (k.frame a p).sender = a := rfl

/-- The kind of a frame built from a kind, where that kind allows the payload's length (R168, R177). -/
theorem knownKind_frame (k : FrameKind) (a : Address) (p : List Byte) :
    (k.frame a p).knownKind = if k.allows p.length then some k else none := by
  simp [RawFrame.knownKind, FrameKind.frame, kindOfCode_code, Option.filter]

theorem kind_of_knownKind_frame {k j : FrameKind} {a : Address} {p : List Byte} (h : (k.frame a p).knownKind = some j) :
    j = k := by
  rw [knownKind_frame] at h
  split at h
  · exact (Option.some.inj h).symm
  · cases h

theorem allows_of_knownKind {k : FrameKind} (h : f.knownKind = some k) : k.allows f.payload.length = true := by
  obtain ⟨-, hk⟩ := Option.filter_eq_some_iff.1 h
  exact (Bool.and_eq_true_iff.1 hk).2

/-- Settles O4: the kind of the frame is the command's, and the bytes stand where `commandOf` reads them. -/
theorem commandOfItsOwnFrame : Obligations.CommandOfItsOwnFrame := by
  intro c f hw hf hu
  cases c <;> cases hf
  case unknownKind => exact absurd rfl (hu f)
  case tuttiOn => simp_all [commandOf, knownKind_frame, FrameKind.allows]
  case serviceModeOn => simp_all [commandOf, knownKind_frame, FrameKind.allows]
  case storePointWrite => simp_all [commandOf, knownKind_frame, FrameKind.allows]
  case storeWrite a t data =>
    have hlen : data.length ≤ 7 := by simpa using hw
    simp [commandOf, knownKind_frame, FrameKind.allows, Nat.lt_succ_of_le hlen]
  case configWrite a t o data =>
    have hlen : 1 ≤ data.length ∧ data.length + 1 < 8 := by
      simp only [wellFormed_configWrite, Bool.and_eq_true, decide_eq_true_eq] at hw
      omega
    simp [commandOf, knownKind_frame, FrameKind.allows, hlen]
  case storeDataTaken a p data =>
    have hlen : data.length = 4 ∨ data.length = 6 := by simpa using hw
    simp [commandOf, knownKind_frame, FrameKind.allows, hlen]
  all_goals simp [commandOf, knownKind_frame, FrameKind.allows]

/-! ### Taking a frame -/

theorem takeFrame_of_not_live {act : Bool → State → State} (h : s.live = false) : takeFrame c act s = s := by
  simp [takeFrame, h]

theorem takeFrame_of_seeking {act : Bool → State → State} (hs : s.link.sending = none) (hl : s.link.line = .seeking) :
    takeFrame c act s = s := by
  simp [takeFrame, hs, hl]

theorem takeFrame_of_readsFrame {act : Bool → State → State} (h : s.readsFrame) (hw : c.wellFormed = true) :
    takeFrame c act s = act false s.frameTaken := takeFrame_other act h.1 hw h.2.1 h.2.2

/-- A sender takes the frame it sends once the frame has left its queue (R174). -/
theorem takeFrame_own {act : Bool → State → State} (hl : s.live = true) (hw : c.wellFormed = true)
    (hs : s.link.sending = some f) (hf : frameOf c = some f) :
    takeFrame c act s = act true (headLeaves { s with link := { s.link with line := .gap }, blockWrite := none }) := by
  simp [takeFrame, hl, hw, hs, hf]

theorem headLeaves_of_unmarked {e : QueueEntry} {q : List QueueEntry} (hq : s.link.queue = e :: q)
    (hm : (e.body.isNote && e.merged) = false) :
    headLeaves s = { s with
      link := { s.link with sending := none, queue := q }
      faults := { s.faults with retryDue := s.faults.notePending } } := by
  simp [headLeaves, hq, hm]

theorem headLeaves_of_marked {e : QueueEntry} {q : List QueueEntry} (hq : s.link.queue = e :: q)
    (hm : (e.body.isNote && e.merged) = true) :
    headLeaves s = offerNote { s with
      link := { s.link with sending := none, queue := q }
      faults := { s.faults with retryDue := s.faults.notePending } } := by
  simp [headLeaves, hq, hm]

/-! ### What a node does with each frame -/

/-- The kinds that only a RUNNING node acts on, and the reports that none acts on (R178). -/
def runningOnly (k : FrameKind) : Bool :=
  k ∈ [.cancel, .recall, .tutti, .shoe, .capture, .level, .deviate, .storeData, .scanReply, .faultNote]

/-- A frame command takes its frame and does `act` with it: the same for a frame of its own, but for a FAULT-NOTE, and
nothing in HAND_ONLY for the kinds that only a RUNNING node acts on (R174, R178). -/
structure ActsOn (c : Instr) (f : RawFrame) (act : Bool → State → State) : Prop where
  exec_or : ∀ s, exec c s = .next s ∨ exec c s = .next (takeFrame c act s)
  exec_of : commandOf f = c → ∀ s, exec c s = .next (takeFrame c act s)
  own : (∀ a high low count, c ≠ .faultNote a high low count) → ∀ t, act true t = act false t
  handOnly : commandOf f = c → ∀ k, f.knownKind = some k → runningOnly k = true → ∀ t : State, t.node = .handOnly →
    act false t = t

theorem whenRunning_of_not_runs {act : State → State} (hr : s.runs = false) (hf : s.rangeFault c = false) :
    whenRunning c act s = s := by
  simp [whenRunning, hr, hf]

theorem runs_of_handOnly (h : s.node = .handOnly) : s.runs = false := by simp [State.runs, h]

/-- A frame that only a RUNNING node acts on. -/
theorem actsOn_running {act : State → State} (hexec : ∀ s, exec c s = .next (takeFrame c (fun _ => whenRunning c act) s))
    (hrange : ∀ s : State, s.runs = false → s.rangeFault c = false) : ActsOn c f fun _ => whenRunning c act where
  exec_or s := .inr (hexec s)
  exec_of _ := hexec
  own _ _ := rfl
  handOnly _ _ _ _ _ hn := whenRunning_of_not_runs (runs_of_handOnly hn) (hrange _ (runs_of_handOnly hn))

/-- A frame of a kind that a HAND_ONLY node acts on. -/
theorem actsOn_live {k : FrameKind} {a : Address} {p : List Byte} {act : State → State} (hk : runningOnly k = false)
    (hexec : ∀ s, exec c s = .next (takeFrame c (fun _ => act) s)) : ActsOn c (k.frame a p) fun _ => act where
  exec_or s := .inr (hexec s)
  exec_of _ := hexec
  own _ _ := rfl
  handOnly _ _ hj hr := by rw [kind_of_knownKind_frame hj, hk] at hr; cases hr

/-- A report that no node acts on. -/
theorem actsOn_report (hexec : ∀ s, exec c s = .next (takeFrame c (fun _ t => t) s)) : ActsOn c f fun _ t => t where
  exec_or s := .inr (hexec s)
  exec_of _ := hexec
  own _ _ := rfl
  handOnly _ _ _ _ _ _ := rfl

/-- The frame's report of an UNKNOWN_KIND (R177, R179). -/
def reportUnknown (f : RawFrame) (s : State) : State := if s.turnsAway f then setFlag .unknownKind s else s

theorem exec_unknownKind_eq (f : RawFrame) (s : State) : exec (.unknownKind f) s =
    if commandOf f = .unknownKind f ∨ s.turnsAway f = true then
      .next (takeFrame (.unknownKind f) (fun _ => reportUnknown f) s)
    else .next s := rfl

theorem turnsAway_of_known {k : FrameKind} (hk : f.knownKind = some k) (hc : commandOf f = .unknownKind f) :
    s.turnsAway f = s.runs := by
  simp [State.turnsAway, hk, hc, State.rangeFault]

theorem actsOn_unknownKind (f : RawFrame) : ActsOn (.unknownKind f) f fun _ => reportUnknown f where
  exec_or s := by
    rw [exec_unknownKind_eq]
    split
    · exact .inr rfl
    · exact .inl rfl
  exec_of h s := by rw [exec_unknownKind_eq, if_pos (.inl h)]
  own _ _ := rfl
  handOnly hc k hk _ t hn := by
    rw [reportUnknown, turnsAway_of_known hk hc, runs_of_handOnly hn]
    rfl

theorem actsOn_faultNote (a : Address) (high low count : Byte) : ActsOn (.faultNote a high low count) f fun own t =>
    if own ∧ high.extractLsb' 2 2 ≠ 0#2 then { t with faults := { t.faults with cause := .none } } else t where
  exec_or _ := .inr rfl
  exec_of _ _ := rfl
  own h := absurd rfl (h a high low count)
  handOnly _ _ _ _ _ _ := by simp

/-- Every frame command acts on its frame. -/
theorem exists_actsOn (h : frameOf c = some f) : ∃ act, ActsOn c f act := by
  cases c <;> cases h
  case unknownKind => exact ⟨_, actsOn_unknownKind f⟩
  case generalRecall => exact ⟨_, actsOn_running (fun _ => rfl) fun s hs => by simp [State.rangeFault, hs]⟩
  case divisionalRecall => exact ⟨_, actsOn_running (fun _ => rfl) fun s hs => by simp [State.rangeFault, hs]⟩
  case generalCancel => exact ⟨_, actsOn_running (fun _ => rfl) fun _ _ => rfl⟩
  case divisionalCancel => exact ⟨_, actsOn_running (fun _ => rfl) fun s hs => by simp [State.rangeFault, hs]⟩
  case generalCapture => exact ⟨_, actsOn_running (fun _ => rfl) fun s hs => by simp [State.rangeFault, hs]⟩
  case divisionalCapture => exact ⟨_, actsOn_running (fun _ => rfl) fun s hs => by simp [State.rangeFault, hs]⟩
  case deviate => exact ⟨_, actsOn_running (fun _ => rfl) fun _ _ => rfl⟩
  case level => exact ⟨_, actsOn_running (fun _ => rfl) fun _ _ => rfl⟩
  case shoe => exact ⟨_, actsOn_running (fun _ => rfl) fun _ _ => rfl⟩
  case tuttiOn => exact ⟨_, actsOn_running (fun _ => rfl) fun _ _ => rfl⟩
  case tuttiOff => exact ⟨_, actsOn_running (fun _ => rfl) fun _ _ => rfl⟩
  case faultNote => exact ⟨_, actsOn_faultNote _ _ _ _⟩
  case storeDataTaken => exact ⟨_, actsOn_report fun _ => rfl⟩
  case scanReplyTaken => exact ⟨_, actsOn_report fun _ => rfl⟩
  all_goals exact ⟨_, actsOn_live rfl fun _ => rfl⟩

/-- Settles O40. -/
theorem framesNotTakenChangeNothing : Obligations.FramesNotTakenChangeNothing := by
  intro c f s hf
  obtain ⟨act, h⟩ := exists_actsOn hf
  refine ⟨fun hoff => ?_, fun hreads hn hw ⟨k, hk, hkinds⟩ hc => ?_⟩
  · rcases h.exec_or s with e | e
    · exact e
    · rw [e]
      rcases hoff with hl | ⟨hs, hline⟩
      · rw [takeFrame_of_not_live hl]
      · rw [takeFrame_of_seeking hs hline]
  · rw [h.exec_of hc, takeFrame_of_readsFrame hreads hw,
      h.handOnly hc k hk (by simpa [runningOnly] using hkinds) s.frameTaken hn]

/-- Settles O41. -/
theorem senderTakesItsOwnFrame : Obligations.SenderTakesItsOwnFrame := by
  intro c f e q s hw hf hc hl hs hq hm hnote
  obtain ⟨act, h⟩ := exists_actsOn hf
  rw [h.exec_of hc, h.exec_of hc, takeFrame_own hl hw hs hf, h.own hnote,
    headLeaves_of_unmarked (s := { s with link := { s.link with line := .gap }, blockWrite := none }) hq hm]
  have hreads : State.readsFrame { s with
      link := { s.link with line := .frame, sending := none, queue := q }
      faults := { s.faults with retryDue := s.faults.notePending } } := ⟨hl, rfl, nofun⟩
  exact congrArg Host.Outcome.next (takeFrame_of_readsFrame hreads hw).symm

/-! ### Reports -/

/-- Settles O53. -/
theorem reportsTakenChangeNothing : Obligations.ReportsTakenChangeNothing := by
  intro a hi lo x data s
  refine ⟨fun h => ⟨?_, ?_, fun hlen => ?_⟩, fun e q hl hs hq hb hp => ?_⟩
  · rw [exec_faultNote, execFaultNote, takeFrame_of_readsFrame h rfl]
    simp
  · rw [exec_scanReplyTaken, execScanReplyTaken, takeFrame_of_readsFrame h rfl]
  · rw [exec_storeDataTaken, execStoreDataTaken, takeFrame_of_readsFrame h (by simpa using hlen)]
  · have hnote : e.body.isNote = true := by rw [hb]; rfl
    rw [exec_faultNote, execFaultNote, takeFrame_own hl rfl hs rfl]
    refine ⟨fun hm => ?_, fun hm hplace hholds => ?_⟩
    · rw [headLeaves_of_unmarked (s := { s with link := { s.link with line := .gap }, blockWrite := none }) hq
        (by simp [hm])]
      by_cases hcause : hi.extractLsb' 2 2 = 0#2 <;> simp [hcause, hp]
    · rw [headLeaves_of_marked (s := { s with link := { s.link with line := .gap }, blockWrite := none }) hq
        (by simp [hm, hnote])]
      simp only [offerNote, hplace, hholds, Bool.false_eq_true, if_false, if_true]
      rw [joinQueue_of_line (by simp [setNotePending])]
      by_cases hcause : hi.extractLsb' 2 2 = 0#2 <;> simp [hcause, setNotePending, hp]

/-! ### Frames turned away -/

theorem exec_unknownKind_of_readsFrame (h : s.readsFrame) (hlen : f.payload.length ≤ 8)
    (hc : commandOf f = .unknownKind f ∨ s.turnsAway f = true) :
    exec (.unknownKind f) s = .next (reportUnknown f s.frameTaken) := by
  rw [exec_unknownKind_eq, if_pos hc, takeFrame_of_readsFrame h (by simpa using hlen)]

/-- A RECALL, CAPTURE or CANCEL of a scope above 1 stands for no typed command (R179). -/
theorem commandOf_of_scope {k : FrameKind} {scope : Byte} {rest : List Byte} (hk : f.knownKind = some k)
    (hkind : k = .recall ∨ k = .capture ∨ k = .cancel) (hp : f.payload = scope :: rest) (hs : 1 < scope.toNat) :
    commandOf f = .unknownKind f := by
  have h0 : scope ≠ 0#8 := by rintro rfl; exact absurd hs (by decide)
  have h1 : scope ≠ 1#8 := by rintro rfl; exact absurd hs (by decide)
  have hallows := allows_of_knownKind hk
  rw [hp] at hallows
  rcases hkind with rfl | rfl | rfl
  · obtain ⟨d, p, l, n, o, rfl⟩ : ∃ d p l n o, [d, p, l, n, o] = rest := by
      simpa [FrameKind.allows, List.length_eq_succ_iff] using hallows
    simp [commandOf, hk, hp, h0, h1]
  · obtain ⟨d, p, l, n, rfl⟩ : ∃ d p l n, [d, p, l, n] = rest := by
      simpa [FrameKind.allows, List.length_eq_succ_iff] using hallows
    simp [commandOf, hk, hp, h0, h1]
  · obtain ⟨d, rfl⟩ : ∃ d, [d] = rest := by
      simpa [FrameKind.allows, List.length_eq_succ_iff] using hallows
    simp [commandOf, hk, hp, h0, h1]

/-- A RUNNING node turns away a frame whose values are out of range (R178, R179). -/
theorem takeFrame_of_rangeFault {act : State → State} (h : s.runsAndReads) (hw : c.wellFormed = true)
    (hr : s.frameTaken.rangeFault c = true) :
    takeFrame c (fun _ => whenRunning c act) s = setFlag .unknownKind s.frameTaken := by
  rw [takeFrame_of_readsFrame ⟨live_of_running h.1, h.2⟩ hw, whenRunning, if_pos hr]

/-- Settles O39. -/
theorem framesTurnedAwayAreReported : Obligations.FramesTurnedAwayAreReported := by
  refine ⟨fun f s h hlen => ⟨fun hk => ?_, fun k scope rest hk hkind hp hs => ?_⟩, fun a d p l n o t data s h => ?_⟩
  · have haway (u : State) : u.turnsAway f = true := by simp [State.turnsAway, hk]
    rw [exec_unknownKind_of_readsFrame h hlen (.inr (haway s)), reportUnknown, if_pos (haway _)]
  · have hc := commandOf_of_scope hk hkind hp hs
    rw [exec_unknownKind_of_readsFrame h hlen (.inl hc), reportUnknown, turnsAway_of_known hk hc]
    exact ⟨fun hr => congrArg Host.Outcome.next (if_pos (runs_of_running hr)),
      fun hn => congrArg Host.Outcome.next (if_neg (by simp [State.runs, hn]))⟩
  · have hr : s.frameTaken.runs = true := runs_of_running h.1
    refine ⟨fun hrange => ?_, fun hrange => ?_, fun hrange => ?_, fun hlow hhigh hend ht => ?_⟩
    · have hout : pistonInRange .general p l = false := by
        rw [Bool.eq_false_iff, Ne, pistonInRange_general]
        omega
      exact ⟨congrArg Host.Outcome.next (takeFrame_of_rangeFault h rfl (by simp [State.rangeFault, hr, hout])),
        congrArg Host.Outcome.next (takeFrame_of_rangeFault h rfl (by simp [State.rangeFault, hr, hout]))⟩
    · have hout : (pistonInRange .divisional p l && divisionInRange d) = false := by
        rw [Bool.eq_false_iff, Ne, Bool.and_eq_true, pistonInRange_divisional, divisionInRange, decide_eq_true_eq]
        omega
      exact ⟨congrArg Host.Outcome.next (takeFrame_of_rangeFault h rfl (by simp only [State.rangeFault, hr, hout]; rfl)),
        congrArg Host.Outcome.next (takeFrame_of_rangeFault h rfl (by simp only [State.rangeFault, hr, hout]; rfl))⟩
    · exact congrArg Host.Outcome.next
        (takeFrame_of_rangeFault h rfl (by simp [State.rangeFault, hr, divisionInRange, hrange]))
    · have hfault : s.frameTaken.rangeFault (.configWrite a t o data) = true := by
        simp only [State.rangeFault, live_of_runs hr, Bool.true_and, Bool.and_eq_true, decide_eq_true_eq]
        exact ⟨ht, hend⟩
      have htarget : s.frameTaken.isTarget t = true := ht
      rw [exec_configWrite, execConfigWrite, forTarget,
        takeFrame_of_readsFrame ⟨live_of_running h.1, h.2⟩ (by simp [hlow, hhigh]), if_pos htarget, if_pos hfault]

end

end Sys2Proof.Machine
end

section
/-! PROOF. The link's attempts and errors: the frame an attempt binds, and what a lost, mismatched or broken frame leaves
(O34, O37). -/

namespace Sys2Proof.Machine

section
variable {s t : State}

/-! ### The payload an attempt binds -/

theorem exec_linkIdle_of_empty (hl : s.live = true) (hline : s.link.line ≠ .frame) (hq : s.link.queue = []) :
    exec .linkIdle s = .next { s with link := { s.link with line := .idle } } := by
  have hstart : startAttempt (withLine .idle s) = withLine .idle s := by
    have hq' : (withLine .idle s).link.queue = [] := hq
    rw [startAttempt, hq']
  simp only [exec_linkIdle, execLinkIdle, hl, hline, hstart, bne_iff_ne, ne_eq, not_false_eq_true,
    Bool.true_and, if_true]
  rfl

theorem exec_startBitRead_of_line (hl : s.live = true) (h : s.link.line = .idle ∨ s.link.line = .gap) :
    exec .startBitRead s = .next { s with link := { s.link with line := .frame } } := by
  have hline : (s.link.line == .idle || s.link.line == .gap) = true := by simpa using h
  simp only [exec_startBitRead, execStartBitRead, hl, hline, Bool.and_self, if_true]
  rfl

/-- The class and the kind of a frame in the queue (R168). -/
theorem Body.cls_kind (b : Body) : (b.kind.cls, b.kind.code) = match b with
    | .cancel _ _ => (0#3, 0x01#5)
    | .recall _ _ _ _ _ => (1#3, 0x02#5)
    | .step _ _ => (1#3, 0x02#5)
    | .tutti => (2#3, 0x03#5)
    | .shoe _ _ _ => (3#3, 0x04#5)
    | .capture _ _ _ _ _ => (4#3, 0x05#5)
    | .level _ => (4#3, 0x06#5)
    | .deviate _ _ => (5#3, 0x08#5)
    | .storeData _ _ => (6#3, 0x14#5)
    | .scanReply _ _ _ => (6#3, 0x16#5)
    | .faultNote => (7#3, 0x1E#5) := by
  cases b <;> rfl

theorem boundLevel_up_of_lt {l : Nat} (h : l < 127) : boundLevel true l = l + 1 := by
  simp only [boundLevel, if_true]
  omega

/-- The fields of a FAULT-NOTE's high byte (R169, R200). -/
theorem noteHigh_fields (fs : Faults) :
    (noteHigh fs).extractLsb' 0 2 = fs.flags.extractLsb' 8 2 ∧ (noteHigh fs).extractLsb' 2 2 = fs.cause.code ∧
      (noteHigh fs).extractLsb' 4 4 = 0#4 := by
  unfold noteHigh
  generalize fs.flags.extractLsb' 8 2 = flags
  generalize fs.cause.code = cause
  revert flags cause
  decide

/-- Settles O34: the attempt of the head binds `Body.frame`, read body by body. -/
theorem idleLinkStartsAnAttempt : Obligations.IdleLinkStartsAnAttempt := by
  refine ⟨fun s hl => ⟨exec_linkIdle_of_empty hl, fun e q hline hq => exec_linkIdle_of_head hl hline hq,
    exec_startBitRead_of_line hl⟩, fun s e q hl hline hq => ?_⟩
  refine ⟨_, e.body.frame s, exec_linkIdle_of_head hl hline hq, rfl, rfl, Body.cls_kind e.body, ?_⟩
  generalize e.body = b
  refine ⟨?_, ?_, ?_, ?_, ?_, ?_, ?_, ?_, ?_, ?_, ?_, ?_, ?_, ?_, ?_, ?_, ?_⟩
  case refine_12 => rintro forward serial rfl hlast; simp only [Body.frame, frame_payload, Body.payload, hlast]; rfl
  case refine_13 => rintro rfl hlt; simp only [Body.frame, frame_payload, Body.payload, boundLevel_up_of_lt hlt]
  case refine_14 => rintro rfl htop; simp only [Body.frame, frame_payload, Body.payload, htop]; rfl
  case refine_16 => rintro rfl; exact ⟨_, rfl, by cases s.resolver.tutti <;> simp⟩
  case refine_17 =>
    rintro rfl
    obtain ⟨hflags, hcause, hzero⟩ := noteHigh_fields s.faults
    exact ⟨_, _, rfl, rfl, hflags, hcause.trans (by cases s.faults.cause <;> rfl), hzero⟩
  all_goals intros; subst_vars; rfl

/-! ### Lost, mismatched and broken frames -/

/-- Off an idle link a call leaves the line and the frame under way (R170). -/
theorem joinQueue_line {b : Body} (h : s.link.line ≠ .idle) :
    (joinQueue b s).link.line = s.link.line ∧ (joinQueue b s).link.sending = s.link.sending := by
  rw [joinQueue_of_line h]
  exact ⟨rfl, rfl⟩

theorem offerNote_line (h : s.link.line ≠ .idle) :
    (offerNote s).link.line = s.link.line ∧ (offerNote s).link.sending = s.link.sending := by
  rcases offerNote_cases s with ⟨-, e⟩ | ⟨-, -, e⟩ | ⟨-, -, -, e⟩ | ⟨-, -, -, e⟩ <;> rw [e]
  · exact ⟨rfl, rfl⟩
  · exact joinQueue_line (s := setNotePending false s) h
  · exact ⟨rfl, rfl⟩
  · exact ⟨rfl, rfl⟩

theorem setFlag_line (f : Flag) (h : s.link.line ≠ .idle) :
    (setFlag f s).link.line = s.link.line ∧ (setFlag f s).link.sending = s.link.sending := by
  rcases setFlag_cases f s with ⟨-, e⟩ | ⟨-, -, e⟩ <;> rw [e]
  · exact ⟨rfl, rfl⟩
  · rcases noteCall_cases (raiseFlag f s) with ⟨-, e⟩ | ⟨-, e⟩ <;> rw [e]
    · exact ⟨rfl, rfl⟩
    · exact offerNote_line (s := setNotePending true (raiseFlag f s)) h

/-- The head leaves the queue, and a marked FAULT-NOTE is followed by a new offer (R172, R184). -/
theorem headLeaves_of_cons {e : QueueEntry} {q : List QueueEntry} (hq : s.link.queue = e :: q) :
    headLeaves s =
      if e.body.isNote && e.merged then
        offerNote { s with
          link := { s.link with sending := none, queue := q }
          faults := { s.faults with retryDue := s.faults.notePending } }
      else { s with
        link := { s.link with sending := none, queue := q }
        faults := { s.faults with retryDue := s.faults.notePending } } := by
  rw [headLeaves, hq]

theorem exec_readbackMismatch_of_sending {f : RawFrame} (hs : s.link.sending = some f) :
    exec .readbackMismatch s = .next (setFlag .readback (headLeaves (withLine .seeking s))) := by
  simp only [exec_readbackMismatch, execReadbackMismatch, hs, Option.isSome_some, if_true]

theorem headLeaves_live (s : State) : (headLeaves s).live = s.live := live_congr (headLeaves_node s)

theorem headLeaves_line {e : QueueEntry} {q : List QueueEntry} (hq : s.link.queue = e :: q) (h : s.link.line ≠ .idle) :
    (headLeaves s).link.line = s.link.line ∧ (headLeaves s).link.sending = none := by
  rw [headLeaves_of_cons hq]
  split
  · exact offerNote_line (s := { s with
      link := { s.link with sending := none, queue := q }
      faults := { s.faults with retryDue := s.faults.notePending } }) h
  · exact ⟨rfl, rfl⟩

theorem receives_of_readsFrame (h : s.readsFrame) : s.receives = true := by
  obtain ⟨hl, hs, hline⟩ := h
  simp [State.receives, hl, hs, hline]

/-- Bits led by a recessive bit begin no frame (R175). -/
theorem assemble_of_recessive (bits : List Bool) : assemble (true :: bits) = .unfinished := rfl

/-- Settles O37. -/
theorem lineErrorsKeepOrDropTheFrame : Obligations.LineErrorsKeepOrDropTheFrame := by
  refine ⟨fun s f e q field hs hq => ⟨fun hlt => ?_, fun hge => ?_⟩, fun s f e q hs hq hl => ?_,
    fun s bits h => ⟨fun ha => ?_, fun f ha => ?_, ?_, ?_⟩⟩
  · simp only [exec_arbitrationLost, execArbitrationLost, hs, hlt, if_true, hq, releaseHead]
  · simp only [exec_arbitrationLost, execArbitrationLost, hs, if_neg (BitVec.not_lt.2 hge)]
  · have hlive : (headLeaves (withLine .seeking s)).live = true := (headLeaves_live _).trans hl
    obtain ⟨hline, hsending⟩ := headLeaves_line (s := withLine .seeking s) hq nofun
    obtain ⟨hline', hsending'⟩ := setFlag_line .readback (s := headLeaves (withLine .seeking s)) (by rw [hline]; nofun)
    refine ⟨_, _, exec_readbackMismatch_of_sending hs, rfl,
      congrArg (setFlag .readback) (headLeaves_of_cons (s := withLine .seeking s) hq), hline'.trans hline,
      hsending'.trans hsending, has_setFlag hlive⟩
  · rw [exec_formatError, execFormatError, if_pos ⟨receives_of_readsFrame h, ha⟩]
    rfl
  · rw [exec_badCheck, execBadCheck, receives_of_readsFrame h, ha]
    rfl
  · rw [exec_formatError, execFormatError, assemble_of_recessive, if_neg (by simp)]
  · rw [exec_badCheck, execBadCheck, assemble_of_recessive, if_neg (by simp [Assembly.failsCheck])]

end

end Sys2Proof.Machine
end

section
/-! PROOF. A pass of targets over the move list, and the start rule against the budget (O22, O23, O42). -/

namespace Sys2Proof.Machine

section
variable {s : State}

/-! ### The move list after a pass -/

/-- Whether a pass puts a stop on the move list: it is handed over, at rest, and not where it is wanted (R59). -/
def State.joinsList (s : State) (target : StopSet) (sq : Sequencer) (n : StopNo) : Bool :=
  s.handsOver target n && (sq.motions[n]).motion == .atRest && target[n] != (s.scanner.stops[n]).value

theorem newTarget_moves {sq : Sequencer} {n : StopNo} (sense d : Bool)
    (h : (sq.motions[n]).motion = .atRest → n ∉ sq.moves) :
    (sq.newTarget n sense d).moves =
      if (sq.motions[n]).motion = .atRest ∧ d ≠ sense then sq.moves ++ [n] else sq.moves := by
  rw [Sequencer.newTarget_eq]
  dsimp only [Sequencer.withStop]
  split
  · rename_i hjoin
    rw [List.filter_eq_self.2 fun k hk => by simpa using fun he : k = n => h hjoin.1 (he ▸ hk)]
  · rfl

/-- The stops that join stand at the tail, in stop order (R59). -/
theorem foldTargets_moves (target : StopSet) {l : List StopNo} (hl : l.Nodup) (sq : Sequencer)
    (h : ∀ n ∈ l, (sq.motions[n]).motion = .atRest → n ∉ sq.moves) :
    (l.foldl (fun sq n =>
      if s.handsOver target n then sq.newTarget n (s.scanner.stops[n]).value target[n] else sq) sq).moves =
      sq.moves ++ l.filter (s.joinsList target sq) := by
  induction l generalizing sq with
  | nil => simp
  | cons k l ih =>
    obtain ⟨hk, hl⟩ := List.nodup_cons.1 hl
    obtain ⟨hrest, h⟩ := List.forall_mem_cons.1 h
    rw [List.foldl_cons]
    cases hand : s.handsOver target k with
    | false =>
      rw [if_neg (by simp), ih hl sq h, List.filter_cons_of_neg (by simp [State.joinsList, hand])]
    | true =>
      rw [if_pos rfl]
      have hother (n : StopNo) (hn : n ∈ l) :
          (sq.newTarget k (s.scanner.stops[k]).value target[k]).motions[n] = sq.motions[n] := by
        rw [Sequencer.newTarget_eq]
        exact getElem_put_other _ _ fun he => hk (he ▸ hn)
      have hsame : l.filter (s.joinsList target (sq.newTarget k (s.scanner.stops[k]).value target[k])) =
          l.filter (s.joinsList target sq) :=
        List.filter_congr fun n hn => by rw [State.joinsList, State.joinsList, hother n hn]
      have hmoves := newTarget_moves (s.scanner.stops[k]).value target[k] hrest
      rw [ih hl, hsame, hmoves]
      · by_cases hjoin : (sq.motions[k]).motion = .atRest ∧ target[k] ≠ (s.scanner.stops[k]).value
        · rw [if_pos hjoin, List.filter_cons_of_pos (by simpa [State.joinsList, hand] using hjoin), List.append_assoc]
          rfl
        · rw [if_neg hjoin, List.filter_cons_of_neg (by simpa [State.joinsList, hand] using hjoin)]
      · intro n hn hm
        rw [hother n hn] at hm
        rw [hmoves]
        have hne : n ≠ k := fun he => hk (he ▸ hn)
        split <;> simp [hne, h n hn hm]

theorem passTargets_moves (target : StopSet) (h : s.coilLaw) :
    (passTargets s target s.sequencer).moves =
      s.sequencer.moves ++ (List.finRange 64).filter (s.joinsList target s.sequencer) := by
  rw [passTargets_eq, foldTargets_moves target (List.nodup_finRange 64)]
  intro n _ hm hmem
  exact ((State.coilLaw_iff.1 h).1.moves n).1 hmem hm

theorem handsOver_iff {target : StopSet} {n : StopNo} :
    s.handsOver target n = true ↔ n.val < s.config.stops ∧ target[n] ≠ s.resolver.drawn[n] := by
  simp [State.handsOver, State.serves]

/-- Settles O42: the list by `passTargets_moves`, each record by `passTargets_motion`. -/
theorem newTargetsQueueOrTurnTheMoves : Obligations.NewTargetsQueueOrTurnTheMoves := by
  intro s target h
  obtain ⟨hcut, hwait⟩ := passTargets_waits s target s.sequencer
  refine ⟨hcut, hwait, passTargets_moves target h, fun n => ⟨fun hout => ?_, fun hn hd => ?_⟩⟩
  · rw [passTargets_motion, if_neg]
    rw [handsOver_iff]
    rintro ⟨hn, hd⟩
    exact hout.elim (fun hn' => absurd hn (by omega)) hd
  · rw [passTargets_motion, if_pos (handsOver_iff.2 ⟨hn, hd⟩)]
    unfold MotionRecord.newTarget
    generalize (s.sequencer.motions[n]).motion = m
    cases m <;> rfl

/-! ### The start rule -/

/-- Whether a stop waits on the move list to start (R61). -/
def Motion.isQueued : Motion → Bool
  | .queued _ _ => true
  | _ => false

/-- A QUEUED record once its pulse has begun; its direction and attempt stay (R61). -/
def MotionRecord.begun (pulseMs : Nat) (r : MotionRecord) : MotionRecord :=
  match r.motion with
  | .queued d a => ⟨.pulsing d a pulseMs, r.stuck⟩
  | _ => r

/-- What the start rule makes of a list: its first QUEUED entries, as many as the budget has room for, begin (R61). -/
structure StartsFirst (budget pulseMs : Nat) (l started : List StopNo) (sq r : Sequencer) : Prop where
  frame : r = { sq with motions := r.motions }
  motions : ∀ n : StopNo, r.motions[n] = if n ∈ started then (sq.motions[n]).begun pulseMs else sq.motions[n]
  energized : r.energized = sq.energized + started.length
  full : sq.energized ≤ budget → r.energized = budget ∨ ∀ n ∈ l, (r.motions[n]).motion.isQueued = false

theorem energized_withMotion {sq : Sequencer} {n : StopNo} {m : Motion} (hold : (sq.motions[n]).motion.pulses = false)
    (hnew : m.pulses = true) : (sq.withMotion n m).energized = sq.energized + 1 := by
  have hcount := countP_put (fun r : MotionRecord => r.motion.pulses) sq.motions n { sq.motions[n] with motion := m }
  simpa [Sequencer.energized, Sequencer.withMotion, hold, hnew, -Fin.getElem_fin] using hcount

theorem startMoves_startsFirst (budget pulseMs : Nat) {l : List StopNo} (hl : l.Nodup) (sq : Sequencer) :
    ∃ k, StartsFirst budget pulseMs l ((l.filter fun n => (sq.motions[n]).motion.isQueued).take k) sq
      (startMoves budget pulseMs l sq) := by
  induction l generalizing sq with
  | nil => exact ⟨0, rfl, by simp [startMoves], rfl, by simp⟩
  | cons n l ih =>
    obtain ⟨hn, hl⟩ := List.nodup_cons.1 hl
    cases hq : (sq.motions[n]).motion.isQueued with
    | false =>
      obtain ⟨k, hframe, hmotions, henergized, hfull⟩ := ih hl sq
      have hstart : startMoves budget pulseMs (n :: l) sq = startMoves budget pulseMs l sq := by
        rw [startMoves]
        revert hq
        cases (sq.motions[n]).motion <;> simp [Motion.isQueued]
      rw [hstart, List.filter_cons_of_neg (by simp [hq, -Fin.getElem_fin])]
      refine ⟨k, hframe, hmotions, henergized, fun hb => (hfull hb).imp_right fun hall => ?_⟩
      refine List.forall_mem_cons.2 ⟨?_, hall⟩
      rw [hmotions, if_neg fun hmem => hn (List.mem_filter.1 (List.mem_of_mem_take hmem)).1]
      exact hq
    | true =>
      obtain ⟨d, a, hm⟩ : ∃ d a, (sq.motions[n]).motion = .queued d a := by
        revert hq
        cases (sq.motions[n]).motion <;> simp [Motion.isQueued]
      by_cases hb : sq.energized < budget
      · have hstart : startMoves budget pulseMs (n :: l) sq =
            startMoves budget pulseMs l (sq.withMotion n (.pulsing d a pulseMs)) := by
          rw [startMoves, hm]
          exact if_pos hb
        have hother (i : StopNo) (hi : i ≠ n) : (sq.withMotion n (.pulsing d a pulseMs)).motions[i] = sq.motions[i] :=
          getElem_put_other _ _ hi.symm
        have hcount : (sq.withMotion n (.pulsing d a pulseMs)).energized = sq.energized + 1 :=
          energized_withMotion (by rw [hm]; rfl) rfl
        obtain ⟨k, hframe, hmotions, henergized, hfull⟩ := ih hl (sq.withMotion n (.pulsing d a pulseMs))
        have hsame : (l.filter fun i => ((sq.withMotion n (.pulsing d a pulseMs)).motions[i]).motion.isQueued) =
            l.filter fun i => (sq.motions[i]).motion.isQueued :=
          List.filter_congr fun i hi => by rw [hother i fun he => hn (he ▸ hi)]
        rw [hsame] at hmotions henergized
        have hnot : n ∉ (l.filter fun i => (sq.motions[i]).motion.isQueued).take k :=
          fun hmem => hn (List.mem_filter.1 (List.mem_of_mem_take hmem)).1
        rw [hstart, List.filter_cons_of_pos (by simpa using hq)]
        refine ⟨k + 1, hframe.trans rfl, fun i => ?_, ?_, fun _ => (hfull (by omega)).imp_right fun hall => ?_⟩
        · rw [hmotions, List.take_succ_cons]
          by_cases hi : i = n
          · subst hi
            rw [if_neg hnot, if_pos List.mem_cons_self]
            simp [Sequencer.withMotion, MotionRecord.begun, hm, -Fin.getElem_fin]
          · simp [hi, hother i hi, -Fin.getElem_fin]
        · rw [henergized, hcount, List.take_succ_cons, List.length_cons]
          omega
        · refine List.forall_mem_cons.2 ⟨?_, hall⟩
          rw [hmotions, if_neg hnot]
          simp [Sequencer.withMotion, Motion.isQueued, -Fin.getElem_fin]
      · have hstart : startMoves budget pulseMs (n :: l) sq = sq := by
          rw [startMoves, hm]
          exact if_neg hb
        rw [hstart]
        exact ⟨0, rfl, by simp, by simp, fun hle => .inl (by omega)⟩

theorem mayStartMoves_iff : s.mayStartMoves = true ↔
    s.node = .running ∧ s.pins.supplyGood = true ∧ s.sequencer.cutHold = none ∧ s.sequencer.startWait = none := by
  simp [State.mayStartMoves, State.runs, and_assoc]

theorem startRule_of_held (h : s.mayStartMoves = false) : startRule s = s := if_neg (by simp [h])

theorem startRule_of_free (h : s.mayStartMoves = true) : startRule s =
    { s with sequencer := startMoves s.config.budget s.config.pulseMs s.sequencer.moves s.sequencer } := if_pos h

/-- Settles O23. -/
theorem startRuleFillsTheBudget : Obligations.StartRuleFillsTheBudget := by
  refine ⟨fun s h => startRule_of_held ?_, fun s h hr hsupply hcut hwait => ?_⟩
  · rw [Bool.eq_false_iff, Ne, mayStartMoves_iff]
    rintro ⟨hr, hsupply, hcut, hwait⟩
    simp [hr, hsupply, hcut, hwait] at h
  · obtain ⟨hwf, -⟩ := State.coilLaw_iff.1 h
    obtain ⟨k, hframe, hmotions, henergized, hfull⟩ :=
      startMoves_startsFirst s.config.budget s.config.pulseMs hwf.nodup s.sequencer
    rw [startRule_of_free (mayStartMoves_iff.2 ⟨hr, hsupply, hcut, hwait⟩)]
    refine ⟨k, _, rfl, congrArg (fun sq => { s with sequencer := sq }) hframe, fun n => ?_, henergized, ?_⟩
    · refine (hmotions n).trans ?_
      cases hm : (s.sequencer.motions[n]).motion <;> simp only [MotionRecord.begun, hm, ite_self]
      rfl
    · refine (hfull hwf.energized).imp_right fun hall n hn d a hq => ?_
      have := hall n hn
      simp [hq, Motion.isQueued, -Fin.getElem_fin] at this

/-! ### The waits that hold the start rule back -/

/-- Settles O22. -/
theorem waitsEndWithTheStartRule : Obligations.WaitsEndWithTheStartRule := by
  intro s hp
  refine ⟨fun hlow => ?_, fun hcut hgood => ?_, fun hwait => ?_⟩
  · simp only [exec_supplyRecovery, execSupplyRecovery, hp, hlow, Bool.not_false, Bool.and_self, if_true]
    rw [startWrite_frame]
    unfold endPassedHold
    dsimp only
    by_cases hzero : s.sequencer.cutHold = some 0 <;> simp [hzero]
  · have hsome : s.sequencer.cutHold.isSome = true := Option.isSome_iff_ne_none.2 hcut
    simp only [exec_cutHoldEnd, execCutHoldEnd, hp, hgood, hsome, Bool.and_self, if_true]
  · have hsome : s.sequencer.startWait.isSome = true := Option.isSome_iff_ne_none.2 hwait
    simp only [exec_startWaitEnd, execStartWaitEnd, hp, hsome, Bool.and_self, if_true]

end

end Sys2Proof.Machine
end

section
/-! PROOF. What a changed sequencer and a changed drawn image bring about: hand moves and the cut of a supply fall
(O21, O26). -/

namespace Sys2Proof.Machine

section
variable {s t u v x : State}

/-! ### What an offer reads -/

/-- Two states in which every report and every offer does the same (R169, R170, R181 to R201). -/
structure ReadsAlike (s t : State) : Prop where
  node : t.node = s.node
  straps : t.straps = s.straps
  config : t.config = s.config
  link : t.link = s.link
  faults : t.faults = s.faults
  level : t.resolver.level = s.resolver.level
  lastGeneral : t.resolver.lastGeneral = s.resolver.lastGeneral
  tutti : t.resolver.tutti = s.resolver.tutti

theorem ReadsAlike.frame (h : ReadsAlike s t) (b : Body) : b.frame t = b.frame s := by
  cases b <;> simp [Body.frame, Body.payload, h.straps, h.config, h.faults, h.level, h.lastGeneral, h.tutti]

theorem ReadsAlike.withLink (h : ReadsAlike s t) (l : Link) : ReadsAlike { s with link := l } { t with link := l } :=
  ⟨h.node, h.straps, h.config, rfl, h.faults, h.level, h.lastGeneral, h.tutti⟩

theorem ReadsAlike.withFaults (h : ReadsAlike s t) (f : Faults) :
    ReadsAlike { s with faults := f } { t with faults := f } :=
  ⟨h.node, h.straps, h.config, h.link, rfl, h.level, h.lastGeneral, h.tutti⟩

theorem ReadsAlike.startAttempt (h : ReadsAlike s t) : ReadsAlike (startAttempt s) (startAttempt t) := by
  unfold Machine.startAttempt
  rw [h.link, live_congr h.node]
  split
  · exact h
  · split
    · simp only [h.frame]
      exact h.withLink _
    · exact h

theorem ReadsAlike.joinQueue (h : ReadsAlike s t) (b : Body) : ReadsAlike (joinQueue b s) (joinQueue b t) := by
  unfold Machine.joinQueue
  rw [h.link]
  exact (h.withLink _).startAttempt

theorem ReadsAlike.setNotePending (h : ReadsAlike s t) (p : Bool) :
    ReadsAlike (setNotePending p s) (setNotePending p t) := by
  unfold Machine.setNotePending
  rw [h.faults]
  exact h.withFaults _

theorem ReadsAlike.raiseFlag (h : ReadsAlike s t) (f : Flag) : ReadsAlike (raiseFlag f s) (raiseFlag f t) := by
  have hmode : t.pulseMode = s.pulseMode := by rw [State.pulseMode, State.pulseMode, runs_congr h.node, h.config]
  unfold Machine.raiseFlag
  rw [h.faults, hmode]
  exact h.withFaults _

theorem ReadsAlike.offerNote (h : ReadsAlike s t) : ReadsAlike (offerNote s) (offerNote t) := by
  unfold Machine.offerNote
  rw [h.link, h.faults]
  split
  · refine ReadsAlike.setNotePending ?_ false
    exact ⟨h.node, h.straps, h.config, rfl, rfl, h.level, h.lastGeneral, h.tutti⟩
  · split
    · exact (h.setNotePending false).joinQueue .faultNote
    · split
      · exact h.setNotePending true
      · exact (h.setNotePending true).raiseFlag .txOverflow

theorem ReadsAlike.noteCall (h : ReadsAlike s t) : ReadsAlike (noteCall s) (noteCall t) := by
  unfold Machine.noteCall
  rw [h.faults]
  split
  · exact h
  · exact (h.setNotePending true).offerNote

theorem ReadsAlike.setFlag (h : ReadsAlike s t) (f : Flag) : ReadsAlike (setFlag f s) (setFlag f t) := by
  unfold Machine.setFlag
  rw [h.faults, live_congr h.node]
  split
  · exact (h.raiseFlag f).noteCall
  · exact h

/-- The report of a changed stuck count does the same from two states alike (R78). -/
theorem stuckFollows_of_alike (h : ReadsAlike s t) (hx : t.stuckFollows x) : s.stuckFollows x := by
  obtain ⟨hcount, hsame, hrises, hfalls⟩ := hx
  rw [h.faults] at hsame hrises hfalls
  rw [h.link] at hsame hfalls
  refine ⟨hcount, hsame, fun hlt => ?_, hfalls⟩
  obtain ⟨hset, hfaults, hlink⟩ := hrises hlt
  refine ⟨hset, ?_⟩
  have hcounted := h.withFaults { s.faults with stuckCount := x.sequencer.stuckCount }
  dsimp only at hfaults hlink ⊢
  split at hfaults
  · rw [if_pos ‹_›] at hlink ⊢
    exact ⟨hfaults.trans hcounted.noteCall.faults, hlink.trans hcounted.noteCall.link⟩
  · rw [if_neg ‹_›] at hlink ⊢
    exact ⟨hfaults.trans (hcounted.setFlag .stuck).faults, hlink.trans (hcounted.setFlag .stuck).link⟩

/-- What follows a changed sequencer is read off link, fault set and stuck count. -/
theorem stuckFollows_congr (h : s.stuckFollows x) (hl : t.link = x.link) (hf : t.faults = x.faults)
    (hc : t.sequencer.stuckCount = x.sequencer.stuckCount) : s.stuckFollows t := by
  unfold State.stuckFollows at h ⊢
  rwa [hl, hf, hc]

/-- What follows a changed speaking set is read off the outputs and the speaking set on both sides. -/
theorem shiftFollows_congr (h : s.shiftFollows x) (ho : t.outputs = s.outputs)
    (hs : t.resolver.speaking = s.resolver.speaking) : t.shiftFollows x := by
  unfold State.shiftFollows at h ⊢
  rwa [ho, hs]

/-! ### A new drawn image -/

/-- The state with another drawn image, and the speaking set recomputed where that is a change (R23, R24). -/
def State.redrawn (s : State) (d : StopSet) : State :=
  if d = s.resolver.drawn then s else refreshSpeaking { s with resolver := { s.resolver with drawn := d } }

/-- The departure check once, where the drawn image changed (R27). -/
def State.redrawnChecked (s : State) (d : StopSet) : State :=
  if d = s.resolver.drawn then s.redrawn d else checkDivisional (checkGeneral (s.redrawn d))

theorem redrawn_of_same {d : StopSet} (h : d = s.resolver.drawn) : s.redrawn d = s := if_pos h

theorem redrawn_of_change {d : StopSet} (h : d ≠ s.resolver.drawn) :
    s.redrawn d = refreshSpeaking { s with resolver := { s.resolver with drawn := d } } := if_neg h

theorem redrawn_frame (d : StopSet) (s : State) : s.redrawn d = { s with
    resolver := { s.resolver with drawn := d, speaking := (s.redrawn d).resolver.speaking }
    outputs := (s.redrawn d).outputs } := by
  by_cases h : d = s.resolver.drawn
  · rw [redrawn_of_same h, h]
  · rw [redrawn_of_change h]
    conv_lhs => rw [refreshSpeaking_frame]
    rw [refreshSpeaking_resolver]

theorem redrawn_lamps (d : StopSet) (s : State) : (s.redrawn d).outputs.lamps = s.outputs.lamps := by
  unfold State.redrawn
  split
  · rfl
  · rw [refreshSpeaking_lamps]

theorem redrawn_speaking {d : StopSet} (h : d ≠ s.resolver.drawn) :
    (s.redrawn d).resolver.speaking = (s.redrawn d).resolver.speaks s.config.stops := by
  rw [redrawn_of_change h, refreshSpeaking_resolver, Resolver.speaks_withSpeaking]

theorem shiftFollows_redrawn {d : StopSet} (h : d ≠ s.resolver.drawn) (hl : s.live = true) :
    s.shiftFollows (s.redrawn d) := by
  rw [redrawn_of_change h]
  exact shiftFollows_refreshSpeaking hl rfl rfl

theorem redrawnChecked_of_same {d : StopSet} (h : d = s.resolver.drawn) : s.redrawnChecked d = s.redrawn d := if_pos h

theorem redrawnChecked_of_change {d : StopSet} (h : d ≠ s.resolver.drawn) :
    s.redrawnChecked d = checkDivisional (checkGeneral (s.redrawn d)) := if_neg h

/-! ### A hand move -/

theorem put_eq_self {α : Type} {k : Nat} {w : Vector α k} {i : Fin k} {y : α} : put w i y = w ↔ w[i] = y := by
  constructor
  · intro h
    rw [← h, getElem_put_same]
  · rintro rfl
    exact put_self w i

theorem drawByHand_eq (n : StopNo) (sense : Bool) (s : State) :
    drawByHand n sense s = s.redrawnChecked (put s.resolver.drawn n sense) := by
  unfold drawByHand State.redrawnChecked
  by_cases h : s.resolver.drawn[n] = sense
  · rw [if_pos h, if_pos (put_eq_self.2 h), redrawn_of_same (put_eq_self.2 h)]
  · rw [if_neg h, if_neg (mt put_eq_self.1 h), redrawn_of_change (mt put_eq_self.1 h)]

theorem exec_stopSenseChange_of_due {n : StopNo} (ht : (s.scanner.stops[n]).timer ≠ none) (hp : s.powered = true) :
    exec (.stopSenseChange n) s = .next (senseReport n (s.scanner.stops[n]).raw (s.debounced (.stop n))) := by
  have hsome : (s.scanner.input (.stop n)).timer.isSome = true := Option.isSome_iff_ne_none.2 ht
  simp only [exec_stopSenseChange, execStopSenseChange, hsome, hp, Bool.and_self, if_true]

theorem senseReport_of_unserved {n : StopNo} {sense : Bool} (h : s.config.stops ≤ n.val) : senseReport n sense s = s := by
  have hserves : s.serves n = false := decide_eq_false (by omega)
  simp only [senseReport, hserves, Bool.not_false, if_true]

theorem senseReport_of_handOnly {n : StopNo} {sense : Bool} (h : n.val < s.config.stops) (hn : s.node = .handOnly) :
    senseReport n sense s =
      refreshSpeaking { s with resolver := { s.resolver with drawn := put s.resolver.drawn n sense } } := by
  have hserves : s.serves n = true := decide_eq_true h
  simp only [senseReport, hserves, Bool.not_true, Bool.false_eq_true, if_false, hn]

theorem senseReport_of_stopped {n : StopNo} {sense : Bool} (h : s.node ≠ .running) (h' : s.node ≠ .handOnly) :
    senseReport n sense s = s := by
  unfold senseReport
  split
  · rfl
  · split
    · exact absurd ‹_› h
    · exact absurd ‹_› h'
    · rfl

theorem senseReport_of_ignored {n : StopNo} {sense : Bool} (hr : s.node = .running)
    (h : s.sequencer.handMove n = none) : senseReport n sense s = s := by
  unfold senseReport
  split
  · rfl
  · simp only [hr, h]

theorem senseReport_of_hand {n : StopNo} {sense : Bool} {sq : Sequencer} (hn : n.val < s.config.stops)
    (hr : s.node = .running) (h : s.sequencer.handMove n = some sq) :
    senseReport n sense s =
      if (s.sequencer.motions[n]).motion.rests then drawByHand n sense (withSequencer sq s)
      else startRule (drawByHand n sense (withSequencer sq s)) := by
  have hserves : s.serves n = true := decide_eq_true hn
  simp only [senseReport, hserves, Bool.not_true, Bool.false_eq_true, if_false, hr, h]

theorem handMove_of_rest {sq : Sequencer} {n : StopNo} (h : (sq.motions[n]).motion = .atRest) :
    sq.handMove n = some (sq.atRest n false) := by
  rw [Sequencer.handMove, h]

theorem handMove_of_queued {sq : Sequencer} {n : StopNo} {d : Bool} {a : Attempt}
    (h : (sq.motions[n]).motion = .queued d a) : sq.handMove n = some (sq.moveDone n) := by
  rw [Sequencer.handMove, h]

theorem handMove_of_moving {sq : Sequencer} {n : StopNo} (h : (sq.motions[n]).motion ≠ .atRest)
    (h' : ∀ d a, (sq.motions[n]).motion ≠ .queued d a) : sq.handMove n = none := by
  unfold Sequencer.handMove
  split
  · exact absurd ‹_› h
  · exact absurd ‹_› (h' _ _)
  · rfl

theorem handMove_frame {sq r : Sequencer} {n : StopNo} (h : sq.handMove n = some r) :
    r = { sq with motions := put sq.motions n ⟨.atRest, false⟩, moves := r.moves } := by
  unfold Sequencer.handMove at h
  split at h <;> cases h <;> rfl

/-- The state in which a hand move has been withdrawn and its report made (R78). -/
def State.withdrawn (s : State) (n : StopNo) (sq : Sequencer) : State := withSequencer sq (s.debounced (.stop n))

theorem withdrawn_frame (s : State) (n : StopNo) (sq : Sequencer) : s.withdrawn n sq = { s with
    scanner := { s.scanner with
      stops := put s.scanner.stops n ⟨(s.scanner.stops[n]).raw, (s.scanner.stops[n]).raw, none⟩ }
    sequencer := sq
    link := (s.withdrawn n sq).link
    faults := (s.withdrawn n sq).faults } := by
  have h := withSequencer_frame sq (s.debounced (.stop n))
  rw [withSequencer_sequencer] at h
  exact h

theorem withdrawn_live (n : StopNo) (sq : Sequencer) : (s.withdrawn n sq).live = s.live :=
  live_congr (withSequencer_node _ _)

theorem stuckFollows_withdrawn (n : StopNo) (sq : Sequencer) (hl : s.live = true) :
    s.stuckFollows (s.withdrawn n sq) :=
  stuckFollows_of_alike (t := s.debounced (.stop n)) ⟨rfl, rfl, rfl, rfl, rfl, rfl, rfl, rfl⟩
    (stuckFollows_withSequencer sq hl)

/-- The state after a hand move, before the departure check and the start rule (R23, R24, R75). -/
def State.handDrawn (s : State) (n : StopNo) (sq : Sequencer) : State :=
  (s.withdrawn n sq).redrawn (put s.resolver.drawn n (s.scanner.stops[n]).raw)

theorem withdrawn_resolver (s : State) (n : StopNo) (sq : Sequencer) : (s.withdrawn n sq).resolver = s.resolver := by
  rw [withdrawn_frame]

theorem withdrawn_outputs (s : State) (n : StopNo) (sq : Sequencer) : (s.withdrawn n sq).outputs = s.outputs := by
  rw [withdrawn_frame]

theorem withdrawn_config (s : State) (n : StopNo) (sq : Sequencer) : (s.withdrawn n sq).config = s.config := by
  rw [withdrawn_frame]

theorem handDrawn_frame {n : StopNo} {sq : Sequencer} (hand : s.sequencer.handMove n = some sq) :
    s.handDrawn n sq = { s with
      scanner := { s.scanner with
        stops := put s.scanner.stops n ⟨(s.scanner.stops[n]).raw, (s.scanner.stops[n]).raw, none⟩ }
      resolver := { s.resolver with
        drawn := put s.resolver.drawn n (s.scanner.stops[n]).raw
        speaking := (s.handDrawn n sq).resolver.speaking }
      sequencer := { s.sequencer with motions := put s.sequencer.motions n ⟨.atRest, false⟩, moves := sq.moves }
      link := (s.handDrawn n sq).link
      outputs := (s.handDrawn n sq).outputs
      faults := (s.handDrawn n sq).faults } := by
  obtain ⟨speaking, outputs, e⟩ : ∃ speaking outputs, s.handDrawn n sq = { s.withdrawn n sq with
      resolver := { (s.withdrawn n sq).resolver with
        drawn := put s.resolver.drawn n (s.scanner.stops[n]).raw, speaking := speaking }
      outputs := outputs } := by
    unfold State.handDrawn
    exact ⟨_, _, redrawn_frame (put s.resolver.drawn n (s.scanner.stops[n]).raw) (s.withdrawn n sq)⟩
  obtain ⟨link, faults, e'⟩ : ∃ link faults, s.withdrawn n sq = { s with
      scanner := { s.scanner with
        stops := put s.scanner.stops n ⟨(s.scanner.stops[n]).raw, (s.scanner.stops[n]).raw, none⟩ }
      sequencer := sq, link := link, faults := faults } := ⟨_, _, withdrawn_frame _ _ _⟩
  rw [e, e', handMove_frame hand]

theorem handDrawn_reports {n : StopNo} {sq : Sequencer} :
    (s.handDrawn n sq).link = (s.withdrawn n sq).link ∧ (s.handDrawn n sq).faults = (s.withdrawn n sq).faults ∧
      (s.handDrawn n sq).sequencer = (s.withdrawn n sq).sequencer := by
  rw [State.handDrawn, redrawn_frame]
  exact ⟨rfl, rfl, rfl⟩

/-- What follows a hand move, as far as the departure check (R23, R24, R27, R75, R78). -/
theorem handDrawn_follows {n : StopNo} {sq : Sequencer} (hl : s.live = true) :
    s.stuckFollows (s.handDrawn n sq) ∧ (s.handDrawn n sq).outputs.lamps = s.outputs.lamps ∧
      (s.resolver.drawn[n] = (s.scanner.stops[n]).raw →
        drawByHand n (s.scanner.stops[n]).raw (s.withdrawn n sq) = s.handDrawn n sq ∧
          (s.handDrawn n sq).resolver.speaking = s.resolver.speaking ∧ (s.handDrawn n sq).outputs = s.outputs) ∧
      (s.resolver.drawn[n] ≠ (s.scanner.stops[n]).raw →
        drawByHand n (s.scanner.stops[n]).raw (s.withdrawn n sq) = checkDivisional (checkGeneral (s.handDrawn n sq)) ∧
          (s.handDrawn n sq).resolver.speaking = (s.handDrawn n sq).resolver.speaks s.config.stops ∧
          s.shiftFollows (s.handDrawn n sq)) := by
  obtain ⟨hlink, hfaults, hsq⟩ := handDrawn_reports (s := s) (n := n) (sq := sq)
  have hresolver := withdrawn_resolver s n sq
  have houtputs := withdrawn_outputs s n sq
  refine ⟨stuckFollows_congr (stuckFollows_withdrawn n sq hl) hlink hfaults (by rw [hsq]),
    (redrawn_lamps _ _).trans (congrArg Outputs.lamps houtputs), fun hd => ?_, fun hd => ?_⟩
  · have hsame : put s.resolver.drawn n (s.scanner.stops[n]).raw = (s.withdrawn n sq).resolver.drawn := by
      rw [hresolver, put_eq_self.2 hd]
    rw [drawByHand_eq, hresolver, redrawnChecked_of_same hsame, State.handDrawn, redrawn_of_same hsame]
    exact ⟨rfl, by rw [hresolver], houtputs⟩
  · have hchange : put s.resolver.drawn n (s.scanner.stops[n]).raw ≠ (s.withdrawn n sq).resolver.drawn := by
      rw [hresolver]
      exact mt put_eq_self.1 hd
    rw [drawByHand_eq, hresolver, redrawnChecked_of_change hchange]
    refine ⟨rfl, (redrawn_speaking hchange).trans (by rw [withdrawn_config]; rfl), ?_⟩
    exact shiftFollows_congr (shiftFollows_redrawn hchange ((withdrawn_live n sq).trans hl)) houtputs.symm (by rw [hresolver])

/-- In HAND_ONLY the drawn image of a stop below S takes the sense, and the speaking set follows (R7). -/
theorem handOnly_follows {n : StopNo} (hn : s.node = .handOnly) :
    ∃ t, refreshSpeaking { s.debounced (.stop n) with
        resolver := { s.resolver with drawn := put s.resolver.drawn n (s.scanner.stops[n]).raw } } = t ∧
      t = { s with
        scanner := { s.scanner with
          stops := put s.scanner.stops n ⟨(s.scanner.stops[n]).raw, (s.scanner.stops[n]).raw, none⟩ }
        resolver := { s.resolver with
          drawn := put s.resolver.drawn n (s.scanner.stops[n]).raw
          speaking := t.resolver.speaks s.config.stops }
        outputs := t.outputs } ∧ s.shiftFollows t ∧ t.outputs.lamps = s.outputs.lamps := by
  have hl : ({ s.debounced (.stop n) with
      resolver := { s.resolver with drawn := put s.resolver.drawn n (s.scanner.stops[n]).raw } } : State).live = true := by
    simp [State.live, hn]
  exact ⟨_, rfl, refreshSpeaking_eq _, shiftFollows_refreshSpeaking hl rfl rfl, refreshSpeaking_lamps _⟩

/-- Settles O26. -/
theorem senseChangeIsAHandMoveOrIgnored : Obligations.SenseChangeIsAHandMoveOrIgnored := by
  intro n s ht hp
  refine ⟨_, _, exec_stopSenseChange_of_due ht hp, rfl, fun ⟨hr, hn, hm⟩ => ?_, fun ⟨hh, hn⟩ => ?_, fun h => ?_⟩
  · obtain ⟨sq, hand⟩ : ∃ sq, s.sequencer.handMove n = some sq := by
      rcases hm with hm | ⟨d, a, hm⟩
      · exact ⟨_, handMove_of_rest hm⟩
      · exact ⟨_, handMove_of_queued hm⟩
    obtain ⟨hstuck, hlamps, hsame, hchange⟩ := handDrawn_follows (n := n) (sq := sq) (live_of_running hr)
    have hreport : senseReport n (s.scanner.stops[n]).raw (s.debounced (.stop n)) = _ :=
      senseReport_of_hand (s := s.debounced (.stop n)) hn hr hand
    have hsq : (s.handDrawn n sq).sequencer = sq := by
      rw [handDrawn_reports.2.2, State.withdrawn, withSequencer_sequencer]
    refine ⟨s.handDrawn n sq, drawByHand n (s.scanner.stops[n]).raw (s.withdrawn n sq), ?_, hstuck, hlamps, hsame,
      hchange, fun hrest => ?_, fun d a hq => ?_⟩
    · rw [hsq]
      exact handDrawn_frame hand
    · rw [handMove_of_rest hrest] at hand
      refine ⟨hreport.trans (if_pos (Motion.rests_iff.2 hrest)), ?_⟩
      rw [hsq, ← Option.some.inj hand]
      rfl
    · rw [handMove_of_queued hq] at hand
      have hmoving : ¬ (s.sequencer.motions[n]).motion.rests = true := by rw [hq]; nofun
      refine ⟨hreport.trans (if_neg hmoving), ?_⟩
      rw [hsq, ← Option.some.inj hand]
      rfl
  · obtain ⟨t, he, hframe, hshift, hlamps⟩ := handOnly_follows (n := n) hh
    have hreport : senseReport n (s.scanner.stops[n]).raw (s.debounced (.stop n)) = t :=
      (senseReport_of_handOnly (s := s.debounced (.stop n)) hn hh).trans he
    rw [hreport]
    exact ⟨hframe, hshift, hlamps⟩
  · rcases h with hn | ⟨hr, hh⟩ | ⟨hr, hm, hq⟩
    · exact senseReport_of_unserved (s := s.debounced (.stop n)) hn
    · exact senseReport_of_stopped (s := s.debounced (.stop n)) hr hh
    · exact senseReport_of_ignored (s := s.debounced (.stop n)) hr (handMove_of_moving hm hq)

/-! ### The cut of a supply fall -/

/-- The drawn image after the cut: a stop whose move was removed takes its debounced sense (R26). -/
def State.drawnAfterCut (s : State) : StopSet :=
  table fun n => if s.sequencer.moving[n] then s.scanner.senses[n] else s.resolver.drawn[n]

/-- The state once the cut has been reported (R78, R79, R80). -/
def State.cutReported (s : State) : State := withSequencer { s.sequencer.cut with cutHold := some 20 } s

theorem cutAtFall_eq (s : State) : cutAtFall s = s.cutReported.redrawnChecked s.drawnAfterCut := by
  have hresolver : s.cutReported.resolver = s.resolver := withSequencer_resolver _ _
  unfold cutAtFall
  dsimp only
  change (if s.drawnAfterCut = _ then s.cutReported else
    checkDivisional (checkGeneral (refreshSpeaking { s.cutReported with
      resolver := { s.cutReported.resolver with drawn := s.drawnAfterCut } }))) = _
  rw [State.redrawnChecked, hresolver]
  split
  · rw [redrawn_of_same (by rwa [hresolver])]
  · rw [redrawn_of_change (by rwa [hresolver]), hresolver]

theorem drawnAfterCut_getElem (s : State) (n : StopNo) : s.drawnAfterCut[n] =
    if (s.sequencer.motions[n]).motion = .atRest then s.resolver.drawn[n] else (s.scanner.stops[n]).value := by
  rw [State.drawnAfterCut, getElem_table_fin, moving_getElem, senses_getElem]
  by_cases h : (s.sequencer.motions[n]).motion = .atRest
  · rw [if_pos h, Motion.rests_iff.2 h]
    rfl
  · rw [if_neg h, Bool.eq_false_iff.2 (mt Motion.rests_iff.1 h)]
    rfl

theorem cutReported_frame (s : State) : s.cutReported = { s with
    sequencer := { s.sequencer.cut with cutHold := some 20 }
    link := s.cutReported.link
    faults := s.cutReported.faults } := by
  have h := withSequencer_frame { s.sequencer.cut with cutHold := some 20 } s
  rw [withSequencer_sequencer] at h
  exact h

theorem exec_supplyFall_of_running (hr : s.node = .running) (hg : s.pins.supplyGood = true) :
    exec .supplyFall s = .next (cutAtFall { s with pins := { s.pins with supplyGood := false } }) := by
  have hp : s.powered = true := by simp [State.powered, hr]
  simp only [exec_supplyFall, execSupplyFall, hp, hg, runs_of_running hr, Bool.and_self, if_true]

theorem exec_supplyFall_of_not_running (hr : s.node ≠ .running) (hp : s.powered = true) (hg : s.pins.supplyGood = true) :
    exec .supplyFall s = .next { s with pins := { s.pins with supplyGood := false } } := by
  have hruns : s.runs = false := by simpa [State.runs] using hr
  simp only [exec_supplyFall, execSupplyFall, hp, hg, hruns, Bool.and_self, if_true, Bool.false_eq_true, if_false]

/-- The state in which a fall is cut: the supply is noted low (R228). -/
def State.low (s : State) : State := { s with pins := { s.pins with supplyGood := false } }

/-- The state after the cut of a fall, before the departure check (R26, R79, R80). -/
def State.cutDown (s : State) : State := s.low.cutReported.redrawn s.drawnAfterCut

theorem low_cutReported_resolver (s : State) : s.low.cutReported.resolver = s.resolver := by
  rw [cutReported_frame]
  rfl

theorem low_cutReported_outputs (s : State) : s.low.cutReported.outputs = s.outputs := by
  rw [cutReported_frame]
  rfl

theorem cutDown_frame (s : State) : s.cutDown = { s with
    pins := { s.pins with supplyGood := false }
    resolver := { s.resolver with drawn := s.drawnAfterCut, speaking := s.cutDown.resolver.speaking }
    sequencer := { s.sequencer with motions := s.sequencer.cut.motions, moves := [], cutHold := some 20 }
    link := s.cutDown.link
    outputs := s.cutDown.outputs
    faults := s.cutDown.faults } := by
  obtain ⟨speaking, outputs, e⟩ : ∃ speaking outputs, s.cutDown = { s.low.cutReported with
      resolver := { s.low.cutReported.resolver with drawn := s.drawnAfterCut, speaking := speaking }
      outputs := outputs } := by
    unfold State.cutDown
    exact ⟨_, _, redrawn_frame s.drawnAfterCut s.low.cutReported⟩
  obtain ⟨link, faults, e'⟩ : ∃ link faults, s.low.cutReported = { s.low with
      sequencer := { s.sequencer.cut with cutHold := some 20 }, link := link, faults := faults } :=
    ⟨_, _, cutReported_frame s.low⟩
  rw [e, e']
  generalize s.drawnAfterCut = d
  rfl

theorem cutDown_reports (s : State) :
    s.cutDown.link = s.low.cutReported.link ∧ s.cutDown.faults = s.low.cutReported.faults ∧
      s.cutDown.sequencer = s.low.cutReported.sequencer := by
  rw [State.cutDown, redrawn_frame]
  exact ⟨rfl, rfl, rfl⟩

theorem stuckFollows_cutDown (hl : s.live = true) : s.stuckFollows s.cutDown := by
  obtain ⟨hlink, hfaults, hsq⟩ := cutDown_reports s
  have hreport : s.stuckFollows s.low.cutReported :=
    stuckFollows_of_alike (t := s.low) ⟨rfl, rfl, rfl, rfl, rfl, rfl, rfl, rfl⟩ (stuckFollows_withSequencer _ hl)
  exact stuckFollows_congr hreport hlink hfaults (congrArg Sequencer.stuckCount hsq)

theorem cutDown_drawn (s : State) : s.cutDown.resolver.drawn = s.drawnAfterCut := by
  rw [cutDown_frame]

theorem cutDown_motions (s : State) : s.cutDown.sequencer.motions = s.sequencer.cut.motions := by
  rw [cutDown_frame]

/-- What the cut does to one stop (R26, R79). -/
theorem cutDown_stop (s : State) (n : StopNo) :
    ((s.sequencer.motions[n]).motion = .atRest →
      s.cutDown.sequencer.motions[n] = s.sequencer.motions[n] ∧ s.cutDown.resolver.drawn[n] = s.resolver.drawn[n]) ∧
    ((s.sequencer.motions[n]).motion ≠ .atRest →
      s.cutDown.sequencer.motions[n] = ⟨.atRest, false⟩ ∧ s.cutDown.resolver.drawn[n] = (s.scanner.stops[n]).value) := by
  rw [cutDown_drawn, cutDown_motions, drawnAfterCut_getElem, cut_getElem, MotionRecord.cut]
  refine ⟨fun hm => ?_, fun hm => ?_⟩
  · rw [if_pos hm, if_pos (Motion.rests_iff.2 hm)]
    exact ⟨rfl, rfl⟩
  · rw [if_neg hm, if_neg (mt Motion.rests_iff.1 hm)]
    exact ⟨rfl, rfl⟩

/-- What the cut does where it leaves the drawn image, and where it changes it (R26, R27). -/
theorem cutDown_follows (hl : s.live = true) :
    (s.cutDown.resolver.drawn = s.resolver.drawn →
      cutAtFall s.low = s.cutDown ∧ s.cutDown.resolver.speaking = s.resolver.speaking ∧
        s.cutDown.outputs = s.outputs) ∧
    (s.cutDown.resolver.drawn ≠ s.resolver.drawn →
      cutAtFall s.low = checkDivisional (checkGeneral s.cutDown) ∧
        s.cutDown.resolver.speaking = s.cutDown.resolver.speaks s.config.stops ∧ s.shiftFollows s.cutDown) := by
  have hresolver := low_cutReported_resolver s
  have houtputs := low_cutReported_outputs s
  have hcut : cutAtFall s.low = s.low.cutReported.redrawnChecked s.drawnAfterCut := cutAtFall_eq s.low
  rw [cutDown_drawn]
  refine ⟨fun hd => ?_, fun hd => ?_⟩
  · have hsame : s.drawnAfterCut = s.low.cutReported.resolver.drawn := by rw [hresolver, hd]
    refine ⟨hcut.trans (redrawnChecked_of_same hsame), ?_, ?_⟩
    · rw [State.cutDown, redrawn_of_same hsame, hresolver]
    · rw [State.cutDown, redrawn_of_same hsame, houtputs]
  · have hchange : s.drawnAfterCut ≠ s.low.cutReported.resolver.drawn := by rwa [hresolver]
    have hlive : s.low.cutReported.live = true := (live_congr (withSequencer_node _ _)).trans hl
    have hconfig : s.low.cutReported.config = s.config := by rw [cutReported_frame]; rfl
    have hspeaks := redrawn_speaking hchange
    rw [hconfig] at hspeaks
    rw [State.cutDown]
    exact ⟨hcut.trans (redrawnChecked_of_change hchange), hspeaks,
      shiftFollows_congr (shiftFollows_redrawn hchange hlive) houtputs.symm (by rw [hresolver])⟩

theorem cutDown_lamps (s : State) : s.cutDown.outputs.lamps = s.outputs.lamps := by
  unfold State.cutDown
  rw [redrawn_lamps, low_cutReported_outputs]

/-- Settles O21. -/
theorem supplyFallCutsTheCoils : Obligations.SupplyFallCutsTheCoils := by
  intro s hg
  refine ⟨fun hr => ?_, fun hr hp => exec_supplyFall_of_not_running hr hp hg⟩
  have hl := live_of_running hr
  have hframe := cutDown_frame s
  rw [← cutDown_drawn, ← cutDown_motions] at hframe
  obtain ⟨hsame, hchange⟩ := cutDown_follows hl
  exact ⟨_, s.cutDown, exec_supplyFall_of_running hr hg, hframe, cutDown_stop s, stuckFollows_cutDown hl,
    cutDown_lamps s, hsame, hchange⟩

end

end Sys2Proof.Machine
end

section
/-! PROOF. The frames that draw and retire: what a pass of targets, the references it leaves and the lamps that follow
come to, and the recalls and cancels made of them (O43, O44). -/

namespace Sys2Proof.Machine

section
variable {s t u b : State} {g : StopSet} {ρ : Resolver → Resolver}

/-! ### Reports off an idle link -/

theorem noteCall_line (h : s.link.line ≠ .idle) :
    (noteCall s).link.line = s.link.line ∧ (noteCall s).link.sending = s.link.sending := by
  rcases noteCall_cases s with ⟨-, e⟩ | ⟨-, e⟩ <;> rw [e]
  · exact ⟨rfl, rfl⟩
  · exact offerNote_line (s := setNotePending true s) h

/-- Off an idle link the report of a changed stuck count leaves the line and the frame under way. -/
theorem withSequencer_line (sq : Sequencer) (h : s.link.line ≠ .idle) :
    (withSequencer sq s).link.line = s.link.line ∧ (withSequencer sq s).link.sending = s.link.sending := by
  rcases lt_trichotomy sq.stuckCount s.faults.stuckCount with hlt | heq | hgt
  · rw [withSequencer_of_count_falls hlt]
    exact ⟨rfl, rfl⟩
  · rw [withSequencer_of_count_same heq]
    exact ⟨rfl, rfl⟩
  · rw [withSequencer_of_count_rises hgt]
    dsimp only
    split
    · exact noteCall_line (s := { s with faults := { s.faults with stuckCount := sq.stuckCount } }) h
    · exact setFlag_line (s := { s with faults := { s.faults with stuckCount := sq.stuckCount } }) .stuck h

/-- The report of a changed stuck count clears no flag but STUCK. -/
theorem withSequencer_has {f : Flag} (sq : Sequencer) (hf : f ≠ .stuck) (h : s.faults.has f = true) :
    (withSequencer sq s).faults.has f = true := by
  rcases lt_trichotomy sq.stuckCount s.faults.stuckCount with hlt | heq | hgt
  · rw [withSequencer_of_count_falls hlt]
    dsimp only
    split
    · exact (Faults.has_withoutFlag s.faults .stuck f).trans (by simp [hf, h])
    · exact h
  · rwa [withSequencer_of_count_same heq]
  · rw [withSequencer_of_count_rises hgt]
    dsimp only
    split
    · exact (extendedBy_noteCall _).2 f h
    · rcases setFlag_cases .stuck { s with faults := { s.faults with stuckCount := sq.stuckCount } } with
        ⟨-, e⟩ | ⟨-, -, e⟩ <;> rw [e]
      · exact h
      · exact (extendedBy_noteCall _).2 f ((extendedBy_raiseFlag _ _).2 f h)

/-! ### A pass, by what it reads -/

/-- The drawn image after a pass of targets (R10). -/
def State.drawnBy (s : State) (g : StopSet) : StopSet := table fun n => if s.serves n then g[n] else s.resolver.drawn[n]

theorem drawnBy_getElem (s : State) (g : StopSet) (n : StopNo) :
    (s.drawnBy g)[n] = if n.val < s.config.stops then g[n] else s.resolver.drawn[n] := by
  rw [State.drawnBy, getElem_table_fin]
  simp [State.serves]

/-- A pass reads of its targets only those of the stops below S, and of the node only these fields (R10). -/
theorem passTargets_congr {g' : StopSet} (hconfig : t.config = s.config) (hdrawn : t.resolver.drawn = s.resolver.drawn)
    (hscanner : t.scanner = s.scanner) (hg : ∀ n : StopNo, n.val < s.config.stops → g'[n] = g[n]) (sq : Sequencer) :
    passTargets t g' sq = passTargets s g sq := by
  unfold passTargets
  congr 1
  funext r n
  have hserves : t.serves n = s.serves n := by rw [State.serves, State.serves, hconfig]
  rw [hserves, hdrawn, hscanner]
  by_cases hn : n.val < s.config.stops
  · rw [hg n hn]
  · simp [State.serves, hn]

/-- A pass whose targets are the drawn image hands no stop over. -/
theorem passTargets_of_drawn (h : ∀ n : StopNo, n.val < s.config.stops → g[n] = s.resolver.drawn[n]) (sq : Sequencer) :
    passTargets s g sq = sq := by
  refine passTargets_congr (g := s.resolver.drawn) rfl rfl rfl h sq |>.trans ?_
  rw [passTargets_eq]
  simp [State.handsOver]

theorem startMoves_moves (budget pulseMs : Nat) (l : List StopNo) (sq : Sequencer) :
    (startMoves budget pulseMs l sq).moves = sq.moves :=
  startMoves_induct (P := fun r => r.moves = sq.moves) budget pulseMs (fun _ _ _ _ h _ _ => h) l rfl

/-- The start rule moves no entry of the list and counts no stop stuck (R61). -/
theorem startRule_moves_stuckCount (s : State) :
    (startRule s).sequencer.moves = s.sequencer.moves ∧ (startRule s).sequencer.stuckCount = s.sequencer.stuckCount := by
  unfold startRule
  split
  · exact ⟨startMoves_moves _ _ _ _, stuckCount_startMoves _ _ _ _⟩
  · exact ⟨rfl, rfl⟩

theorem startRule_sequencer_congr (hnode : t.node = s.node) (hpins : t.pins = s.pins) (hconfig : t.config = s.config)
    (hsq : t.sequencer = s.sequencer) : (startRule t).sequencer = (startRule s).sequencer := by
  have hmay : t.mayStartMoves = s.mayStartMoves := by
    rw [State.mayStartMoves, State.mayStartMoves, runs_congr hnode, hpins, hsq]
  unfold startRule
  rw [hmay, hconfig, hsq]
  split
  · rfl
  · exact hsq

/-! ### What follows the lamps' records -/

theorem steadyValue_congr (hstraps : t.straps = s.straps) (hg : t.resolver.general = s.resolver.general)
    (hd : t.resolver.divisional = s.resolver.divisional) (hl : t.resolver.lampRefs = s.resolver.lampRefs)
    (p : Option Piston) : t.steadyValue p = s.steadyValue p := by
  unfold State.steadyValue
  rw [hstraps, hg, hd, hl]

theorem lampsFollow_refreshLamps (hc : u.config = s.config) (ho : u.outputs.lamps = s.outputs.lamps) :
    s.lampsFollow (refreshLamps u) := by
  intro i
  rw [steadyValue_congr (s := u) (by simp) (by simp) (by simp) (by simp), ← hc, ← ho]
  simp only [refreshLamps, Fin.getElem_fin, Vector.getElem_mapFinIdx]

theorem lampsFollow_congr (h : s.lampsFollow u) (hstraps : t.straps = u.straps) (hresolver : t.resolver = u.resolver)
    (hlamps : t.outputs.lamps = u.outputs.lamps) : s.lampsFollow t := by
  intro i
  rw [hlamps, steadyValue_congr hstraps (congrArg _ hresolver) (congrArg _ hresolver) (congrArg _ hresolver)]
  exact h i

theorem refreshLamps_frame (s : State) : refreshLamps s =
    { s with outputs := { s.outputs with lamps := (refreshLamps s).outputs.lamps } } := rfl

/-! ### A pass with its references and its lamps -/

/-- A pass of targets, what the frame makes of the references, and the speaking set and the lamps that follow
(R12, R13, R15, R16). -/
def State.registered (g : StopSet) (ρ : Resolver → Resolver) (s : State) : State :=
  refreshLamps (refreshSpeaking { applyTargets g s with resolver := ρ (applyTargets g s).resolver })

/-- The resolver with its speaking set recomputed (R6). -/
def Resolver.respoken (r : Resolver) (stops : Nat) : Resolver := { r with speaking := r.speaks stops }

theorem respoken_drawn (r : Resolver) (stops : Nat) : (r.respoken stops).drawn = r.drawn := by
  rw [Resolver.respoken]

theorem respoken_speaking (r : Resolver) (stops : Nat) :
    (r.respoken stops).speaking = (r.respoken stops).speaks stops := by
  rw [Resolver.respoken, Resolver.speaks_withSpeaking r (r.speaks stops)]

theorem registered_resolver (g : StopSet) (ρ : Resolver → Resolver) (s : State) : (s.registered g ρ).resolver =
    (ρ { s.resolver with drawn := s.drawnBy g }).respoken s.config.stops := by
  rw [State.registered, refreshLamps_resolver, refreshSpeaking_resolver, applyTargets_resolver, applyTargets_config]
  rfl

theorem registered_reports (g : StopSet) (ρ : Resolver → Resolver) (s : State) :
    (s.registered g ρ).link = (applyTargets g s).link ∧ (s.registered g ρ).faults = (applyTargets g s).faults ∧
      (s.registered g ρ).sequencer = passTargets s g s.sequencer := by
  rw [State.registered, refreshLamps_link, refreshSpeaking_link, refreshLamps_faults, refreshSpeaking_faults,
    refreshLamps_sequencer, refreshSpeaking_sequencer]
  exact ⟨rfl, rfl, applyTargets_sequencer g s⟩

theorem registered_frame (g : StopSet) (ρ : Resolver → Resolver) (s : State) : s.registered g ρ = { s with
    resolver := (s.registered g ρ).resolver
    sequencer := (s.registered g ρ).sequencer
    link := (s.registered g ρ).link
    outputs := (s.registered g ρ).outputs
    faults := (s.registered g ρ).faults } := by
  obtain ⟨lamps, e⟩ : ∃ lamps, s.registered g ρ = { refreshSpeaking { applyTargets g s with
      resolver := ρ (applyTargets g s).resolver } with outputs := lamps } := by
    unfold State.registered
    exact ⟨_, refreshLamps_frame _⟩
  obtain ⟨resolver, outputs, e'⟩ : ∃ resolver outputs, refreshSpeaking { applyTargets g s with
      resolver := ρ (applyTargets g s).resolver } = { applyTargets g s with
        resolver := resolver, outputs := outputs } := ⟨_, _, refreshSpeaking_frame _⟩
  obtain ⟨resolver', sq, link, faults, e''⟩ : ∃ resolver sq link faults, applyTargets g s = { s with
      resolver := resolver, sequencer := sq, link := link, faults := faults } := ⟨_, _, _, _, applyTargets_frame g s⟩
  rw [e, e', e'']

theorem applyTargets_eq (g : StopSet) (s : State) : applyTargets g s =
    withSequencer (passTargets s g s.sequencer) { s with resolver := { s.resolver with drawn := s.drawnBy g } } := rfl

/-- The report of a pass, from any state in which reports do the same (R78). -/
theorem stuckFollows_registered (h : ReadsAlike t s) (hl : s.live = true) : t.stuckFollows (s.registered g ρ) := by
  obtain ⟨hlink, hfaults, hsq⟩ := registered_reports g ρ s
  have hpass : t.stuckFollows (applyTargets g s) := by
    rw [applyTargets_eq]
    generalize s.drawnBy g = drawn
    refine stuckFollows_of_alike ?_ (stuckFollows_withSequencer (passTargets s g s.sequencer) hl)
    exact ⟨h.node, h.straps, h.config, h.link, h.faults, h.level, h.lastGeneral, h.tutti⟩
  exact stuckFollows_congr hpass hlink hfaults (by rw [hsq, applyTargets_sequencer])

theorem registered_line (h : s.link.line ≠ .idle) :
    (s.registered g ρ).link.line = s.link.line ∧ (s.registered g ρ).link.sending = s.link.sending := by
  rw [(registered_reports g ρ s).1, applyTargets_eq]
  generalize s.drawnBy g = drawn
  exact withSequencer_line (s := { s with resolver := { s.resolver with drawn := drawn } }) _ h

theorem registered_has {f : Flag} (hf : f ≠ .stuck) (h : s.faults.has f = true) :
    (s.registered g ρ).faults.has f = true := by
  rw [(registered_reports g ρ s).2.1, applyTargets_eq]
  generalize s.drawnBy g = drawn
  exact withSequencer_has (s := { s with resolver := { s.resolver with drawn := drawn } }) _ hf h

/-- A frame whose references leave the speaking set to the refresh (R6). -/
theorem shiftFollows_registered (hρ : ∀ r, (ρ r).speaking = r.speaking) (hl : s.live = true) :
    s.shiftFollows (s.registered g ρ) := by
  have hrefresh : s.shiftFollows (refreshSpeaking { applyTargets g s with resolver := ρ (applyTargets g s).resolver }) :=
    shiftFollows_refreshSpeaking ((live_congr (applyTargets_node g s)).trans hl) (applyTargets_outputs g s)
      (by rw [hρ, applyTargets_resolver])
  unfold State.registered
  generalize refreshSpeaking { applyTargets g s with resolver := ρ (applyTargets g s).resolver } = u at hrefresh
  rw [refreshLamps_frame]
  generalize (refreshLamps u).outputs.lamps = lamps
  obtain ⟨hframe, hsame, hidle, hbusy⟩ := hrefresh
  exact ⟨by rw [hframe], hsame, hidle, hbusy⟩

theorem lampsFollow_registered : s.lampsFollow (s.registered g ρ) := by
  unfold State.registered
  exact lampsFollow_refreshLamps (by rw [refreshSpeaking_config, applyTargets_config])
    (by rw [refreshSpeaking_lamps, applyTargets_outputs])

/-! ### The same from the state before the frame -/

/-- A state whose frame has been taken and whose record has been read: link and fault set may have changed. -/
def State.afterRead (link : Link) (faults : Faults) (s : State) : State :=
  { s with blockWrite := none, link := link, faults := faults }

theorem readRecord_afterRead (i : Nat) (s : State) :
    readRecord i s.frameTaken =
      s.afterRead (readRecord i s.frameTaken).link (readRecord i s.frameTaken).faults :=
  readRecord_frame i s.frameTaken

/-- What a frame makes of the references leaves the drawn image and the speaking set alone. -/
structure KeepsImage (ρ : Resolver → Resolver) : Prop where
  drawn : ∀ r, (ρ r).drawn = r.drawn
  speaking : ∀ r, (ρ r).speaking = r.speaking

/-- What a frame that draws and retires makes of a node: `u` is the state before the start rule. -/
structure State.Registers (s : State) (g : StopSet) (ρ : Resolver → Resolver) (link : Link) (faults : Faults)
    (u : State) : Prop where
  frame : u = { s with
    blockWrite := none
    resolver := { ρ { s.resolver with drawn := u.resolver.drawn } with speaking := u.resolver.speaking }
    sequencer := passTargets s u.resolver.drawn s.sequencer
    link := u.link
    outputs := u.outputs
    faults := u.faults }
  drawn : u.resolver.drawn = s.drawnBy g
  speaks : u.resolver.speaking = u.resolver.speaks s.config.stops
  counted : u.faults.stuckCount = u.sequencer.stuckCount
  line : link.line ≠ .idle → u.link.line = link.line ∧ u.link.sending = link.sending
  has : ∀ f : Flag, f ≠ .stuck → faults.has f = true → u.faults.has f = true
  stuck : ∀ t, ReadsAlike t (s.afterRead link faults) → t.stuckFollows u
  shift : s.shiftFollows u
  lamps : s.lampsFollow u

theorem registered_drawn (hρ : KeepsImage ρ) (g : StopSet) (s : State) :
    (s.registered g ρ).resolver.drawn = s.drawnBy g := by
  rw [registered_resolver, respoken_drawn, hρ.drawn]

theorem registered_speaks (g : StopSet) (ρ : Resolver → Resolver) (s : State) :
    (s.registered g ρ).resolver.speaking = (s.registered g ρ).resolver.speaks s.config.stops := by
  rw [registered_resolver, respoken_speaking]

theorem registered_resolver_frame (hρ : KeepsImage ρ) (g : StopSet) (s : State) : (s.registered g ρ).resolver =
    { ρ { s.resolver with drawn := (s.registered g ρ).resolver.drawn } with
      speaking := (s.registered g ρ).resolver.speaking } := by
  rw [registered_drawn hρ, registered_resolver]
  generalize ρ { s.resolver with drawn := s.drawnBy g } = r
  rfl

theorem registers_registered (hl : s.live = true) (g : StopSet) (hρ : KeepsImage ρ) (link : Link)
    (faults : Faults) : s.Registers g ρ link faults ((s.afterRead link faults).registered g ρ) := by
  have hlive : (s.afterRead link faults).live = true := hl
  have hdrawn : ((s.afterRead link faults).registered g ρ).resolver.drawn = s.drawnBy g := registered_drawn hρ g _
  have hresolver := registered_resolver_frame hρ g (s.afterRead link faults)
  have hpass : passTargets (s.afterRead link faults) g s.sequencer = passTargets s (s.drawnBy g) s.sequencer :=
    passTargets_congr rfl rfl rfl (fun n hn => by rw [drawnBy_getElem, if_pos (show n.val < s.config.stops from hn)]) _
  have hsq : ((s.afterRead link faults).registered g ρ).sequencer = passTargets s (s.drawnBy g) s.sequencer :=
    (registered_reports g ρ (s.afterRead link faults)).2.2.trans hpass
  have hstuck (t : State) (h : ReadsAlike t (s.afterRead link faults)) := stuckFollows_registered (g := g) (ρ := ρ) h hlive
  have hframe := registered_frame g ρ (s.afterRead link faults)
  have hshift := shiftFollows_registered (s := s.afterRead link faults) (g := g) hρ.speaking hlive
  have hlamps := lampsFollow_registered (s := s.afterRead link faults) (g := g) (ρ := ρ)
  have hspeaks := registered_speaks g ρ (s.afterRead link faults)
  have hline := registered_line (s := s.afterRead link faults) (g := g) (ρ := ρ)
  have hhas (f : Flag) := registered_has (s := s.afterRead link faults) (g := g) (ρ := ρ) (f := f)
  generalize (s.afterRead link faults).registered g ρ = u at *
  refine ⟨?_, hdrawn, hspeaks, (hstuck _ ⟨rfl, rfl, rfl, rfl, rfl, rfl, rfl, rfl⟩).1, hline, hhas, hstuck, hshift, hlamps⟩
  rw [hsq, hresolver] at hframe
  rw [hdrawn] at hframe ⊢
  exact hframe

/-- The start rule at the end of the event, from the state before the frame (R61). -/
theorem State.Registers.startRule_frame {link : Link} {faults : Faults} (h : s.Registers g ρ link faults u) :
    startRule u = { u with
      sequencer := (startRule { s with sequencer := passTargets s u.resolver.drawn s.sequencer }).sequencer } := by
  have hsq : (startRule u).sequencer =
      (startRule { s with sequencer := passTargets s u.resolver.drawn s.sequencer }).sequencer := by
    have hframe := h.frame
    generalize passTargets s u.resolver.drawn s.sequencer = sq at *
    rw [hframe]
    exact startRule_sequencer_congr rfl rfl rfl rfl
  rw [← hsq]
  exact Machine.startRule_frame u

/-! ### The records as a recall reads them -/

theorem combination_getElem (i : Nat) (k : StopNo) (s : State) : (s.combination i)[k] =
    if s.config.stops ≤ k.val then .leave else entryOfCode (entryCode (s.store.answer i) k) := by
  rw [State.combination, combinationView, getElem_table_fin]
  by_cases h : k.val < s.config.stops
  · rw [if_pos h, if_neg (by omega)]
  · rw [if_neg h, if_pos (by omega)]

theorem entryOfCode_eq_match (c : BitVec 2) :
    entryOfCode c = match c with | 1#2 => .draw | 2#2 => .retire | _ => .leave := by
  revert c; decide

theorem entryCode_eq_shift (bytes : EntryBytes) (k : StopNo) :
    entryCode bytes k = ((bytes[k.val / 4]'(by omega)) >>> (2 * (k.val % 4))).setWidth 2 := by
  exact BitVec.eq_of_toNat_eq (by simp [entryCode])

theorem combination_of_damaged {i : Nat} (h : s.store.readDamaged i = true) :
    s.combination i = Vector.replicate 64 .leave := by
  refine table_ext fun k => ?_
  rw [combination_getElem, Store.answer_of_readDamaged h, entryOfCode_allLeave, ite_self]
  simp

/-- The target an entry gives a stop (R10). -/
def Entry.target (drawn : Bool) : Entry → Bool
  | .leave => drawn
  | .draw => true
  | .retire => false

theorem entryTargets_getElem (entries : Stops Entry) (drawn : StopSet) (k : StopNo) :
    (entryTargets entries drawn)[k] = (entries[k]).target drawn[k] := by
  rw [entryTargets, getElem_table_fin]
  generalize entries[k] = e
  cases e <;> rfl

/-- The targets of a record at one stop (R10): a stop at or above S has LEAVE. -/
theorem drawnBy_combination (i : Nat) (k : StopNo) (s : State) :
    (s.drawnBy (entryTargets (s.combination i) s.resolver.drawn))[k] = ((s.combination i)[k]).target s.resolver.drawn[k] := by
  rw [drawnBy_getElem, entryTargets_getElem, ite_eq_left_iff]
  intro hk
  rw [combination_getElem, if_pos (by omega)]
  rfl

theorem drawnBy_self (s : State) : s.drawnBy s.resolver.drawn = s.resolver.drawn :=
  table_ext fun k => by rw [drawnBy_getElem, ite_self]

theorem entryTargets_leave (drawn : StopSet) : entryTargets (Vector.replicate 64 .leave) drawn = drawn :=
  table_ext fun k => by rw [entryTargets_getElem]; simp [Entry.target]

/-! ### Recalls -/

/-- The state a recall leaves before its departure check and its start rule (R12, R13). -/
def State.recalled (i : Nat) (ρ : Resolver → Resolver) (s : State) : State :=
  (readRecord i s.frameTaken).registered (entryTargets (s.combination i) s.resolver.drawn) ρ

theorem readRecord_line (i : Nat) (h : s.link.line ≠ .idle) :
    (readRecord i s).link.line = s.link.line ∧ (readRecord i s).link.sending = s.link.sending := by
  unfold readRecord
  split
  · exact setFlag_line .damaged h
  · exact ⟨rfl, rfl⟩

theorem registers_recalled (h : s.runsAndReads) (i : Nat) (hρ : KeepsImage ρ) :
    s.Registers (entryTargets (s.combination i) s.resolver.drawn) ρ (readRecord i s.frameTaken).link
      (readRecord i s.frameTaken).faults (s.recalled i ρ) := by
  unfold State.recalled
  have hread := readRecord_afterRead i s
  generalize (readRecord i s.frameTaken).link = link at hread
  generalize (readRecord i s.frameTaken).faults = faults at hread
  rw [hread]
  exact registers_registered (live_of_running h.1) _ hρ _ _

theorem recalled_line (h : s.runsAndReads) (i : Nat) (hρ : KeepsImage ρ) :
    (s.recalled i ρ).link.line = .gap ∧ (s.recalled i ρ).link.sending = none := by
  obtain ⟨hline, hsending⟩ := readRecord_line (s := s.frameTaken) i nofun
  obtain ⟨hline', hsending'⟩ := (registers_recalled h i hρ).line (by rw [hline]; nofun)
  exact ⟨hline'.trans hline, hsending'.trans (hsending.trans h.2.1)⟩

/-- A damaged record reads all LEAVE: the drawn image and the moves stay, and DAMAGED is set (R38). -/
theorem recalled_of_damaged (h : s.runsAndReads) {i : Nat} (hρ : KeepsImage ρ)
    (hd : s.store.readDamaged i = true) :
    (s.recalled i ρ).faults.has .damaged = true ∧
      s.drawnBy (entryTargets (s.combination i) s.resolver.drawn) = s.resolver.drawn ∧
      passTargets s (s.drawnBy (entryTargets (s.combination i) s.resolver.drawn)) s.sequencer = s.sequencer := by
  have hread : (readRecord i s.frameTaken).faults.has .damaged = true := by
    rw [readRecord_of_damaged (s := s.frameTaken) hd]
    exact has_setFlag (s := s.frameTaken) (live_of_running h.1)
  rw [combination_of_damaged hd, entryTargets_leave, drawnBy_self]
  exact ⟨(registers_recalled h i hρ).has .damaged nofun hread, rfl, passTargets_of_drawn (fun _ _ => rfl) _⟩

/-- A sound record is read without a report: only the moves report (R38, R78). -/
theorem recalled_stuckFollows (h : s.runsAndReads) {i : Nat} (hρ : KeepsImage ρ)
    (hd : s.store.readDamaged i = false) :
    { s with link := { s.link with line := .gap } }.stuckFollows (s.recalled i ρ) := by
  refine (registers_recalled h i hρ).stuck _ ?_
  rw [readRecord_of_sound (s := s.frameTaken) hd]
  exact ⟨rfl, rfl, rfl, rfl, rfl, rfl, rfl, rfl⟩

/-- What a general record leaves of the references (R12, R87). -/
def Resolver.takeGeneral (r : Reference) (level : Byte) (v : Resolver) : Resolver :=
  { v with
    general := some r, lastGeneral := some (level.toNat, r.piston), divisional := none
    lampRefs := Vector.replicate 16 none }

/-- What a divisional record leaves of the references (R13). -/
def Resolver.takeDivisional (r : Reference) (v : Resolver) : Resolver := { v with divisional := some r }

theorem keepsImage_takeGeneral (r : Reference) (level : Byte) : KeepsImage (Resolver.takeGeneral r level) :=
  ⟨fun _ => rfl, fun _ => rfl⟩

theorem keepsImage_takeDivisional (r : Reference) : KeepsImage (Resolver.takeDivisional r) :=
  ⟨fun _ => rfl, fun _ => rfl⟩

theorem generalRecallEffect_eq (tag : Tag) (p l : Byte) (s : State) :
    generalRecallEffect tag p l s.frameTaken = startRule (s.recalled (generalIndex l.toNat p.toNat)
      (Resolver.takeGeneral (Reference.fresh tag p (s.combination (generalIndex l.toNat p.toNat))) l)) := rfl

theorem divisionalRecallEffect_eq (tag : Tag) (p l : Byte) (s : State) :
    divisionalRecallEffect tag p l s.frameTaken =
      startRule (checkGeneral (s.recalled (divisionalIndex l.toNat p.toNat)
        (Resolver.takeDivisional (Reference.fresh tag p (s.combination (divisionalIndex l.toNat p.toNat)))))) := rfl

theorem exec_generalRecall_of_runsAndReads {a : Address} {d p l n o : Byte} (h : s.runsAndReads)
    (hp : pistonInRange .general p l = true) :
    exec (.generalRecall a d p l n o) s = .next (generalRecallEffect ⟨a, n⟩ p l s.frameTaken) := by
  rw [exec_generalRecall, execGeneralRecall, takeFrame_whenRunning _ h rfl (by simp [State.rangeFault, hp])]

theorem divisionInRange_own (s : State) : divisionInRange (divisionByte s.straps.division) = true := by
  have := s.straps.division.isLt
  simp only [divisionInRange, divisionByte, BitVec.toNat_setWidth, decide_eq_true_eq]
  omega

theorem exec_divisionalRecall_of_runsAndReads {a : Address} {d p l n o : Byte} (h : s.runsAndReads)
    (hp : pistonInRange .divisional p l = true) (hd : divisionInRange d = true) :
    exec (.divisionalRecall a d p l n o) s = .next (if s.ownDivision d then
      divisionalRecallEffect ⟨a, n⟩ p l s.frameTaken
      else refreshLamps (setLampReference (divisionOf d) (some ⟨⟨a, n⟩, p.toNat, false⟩) s.frameTaken)) := by
  rw [exec_divisionalRecall, execDivisionalRecall, takeFrame_whenRunning _ h rfl (by simp [State.rangeFault, hp, hd])]
  rfl

/-! ### The lamp reference of another division -/

theorem place_divisionOf {d : Byte} (hd : d.toNat ≤ 15) (k : Fin 16) :
    Division.place (divisionOf d) = k ↔ k.val = d.toNat := by
  rw [Fin.ext_iff]
  simp only [Division.place, divisionOf, BitVec.toNat_setWidth]
  omega

theorem setLampReference_eq (d : Division) (r : Option LampReference) (s : State) : setLampReference d r s =
    { s with resolver := { s.resolver with
        lampRefs := if s.keepsLampReference d then put s.resolver.lampRefs (Division.place d) r else s.resolver.lampRefs } } := by
  unfold setLampReference
  split <;> rfl

/-- A frame of another division only takes or clears its lamp reference, and the lamps follow (R86, R87). -/
theorem lampReference_follows {d : Byte} (hd : d.toNat ≤ 15) (r : Option LampReference) :
    ∃ t, refreshLamps (setLampReference (divisionOf d) r s.frameTaken) = t ∧
      t = { s.frameTaken with
        resolver := { s.resolver with lampRefs := t.resolver.lampRefs }
        outputs := { s.outputs with lamps := t.outputs.lamps } } ∧
      (∀ k : Fin 16, t.resolver.lampRefs[k] =
        if k.val = d.toNat ∧ s.keepsLampReference (divisionOf d) = true then r else s.resolver.lampRefs[k]) ∧
      s.lampsFollow t := by
  refine ⟨_, rfl, ?_, fun k => ?_, lampsFollow_refreshLamps (by simp) (by simp)⟩
  · conv_lhs => rw [refreshLamps_frame]
    rw [setLampReference_eq]
    rfl
  · rw [refreshLamps_resolver, setLampReference_eq]
    have hkeeps : s.frameTaken.keepsLampReference (divisionOf d) = s.keepsLampReference (divisionOf d) := rfl
    rw [hkeeps]
    dsimp only
    by_cases hkeep : s.keepsLampReference (divisionOf d) = true
    · rw [if_pos hkeep, getElem_put_fin]
      simp only [place_divisionOf hd, hkeep, and_true]
    · rw [if_neg hkeep, if_neg fun h => hkeep h.2]

/-- The recall of a record, as far as the departure check and the start rule (R10, R12, R13, R38). -/
structure State.Recalls (s : State) (i : Nat) (ρ : Resolver → Resolver) (u : State) : Prop where
  frame : u = { s with
    blockWrite := none
    resolver := { ρ { s.resolver with drawn := u.resolver.drawn } with speaking := u.resolver.speaks s.config.stops }
    sequencer := passTargets s u.resolver.drawn s.sequencer
    link := u.link
    outputs := u.outputs
    faults := u.faults }
  start : startRule u = { u with
    sequencer := (startRule { s with sequencer := passTargets s u.resolver.drawn s.sequencer }).sequencer }
  drawn : ∀ k : StopNo, u.resolver.drawn[k] = ((s.combination i)[k]).target s.resolver.drawn[k]
  counted : u.faults.stuckCount = u.sequencer.stuckCount
  line : u.link.line = .gap
  sending : u.link.sending = none
  damaged : s.store.readDamaged i = true →
    u.faults.has .damaged = true ∧ u.resolver.drawn = s.resolver.drawn ∧
      s.combination i = Vector.replicate 64 .leave ∧ u.sequencer.moves = s.sequencer.moves
  sound : s.store.readDamaged i = false → { s with link := { s.link with line := .gap } }.stuckFollows u
  shift : s.shiftFollows u
  lamps : s.lampsFollow u

theorem recalls_recalled (h : s.runsAndReads) (i : Nat) (hρ : KeepsImage ρ) : s.Recalls i ρ (s.recalled i ρ) := by
  have hu := registers_recalled h i hρ
  have hline := recalled_line h i hρ
  have hdamaged := recalled_of_damaged h (i := i) hρ
  have hsound := recalled_stuckFollows h (i := i) hρ
  have hstart := hu.startRule_frame
  have hbits := drawnBy_combination i (s := s)
  obtain ⟨hframe, hdrawn, hspeaks, hcount, -, -, -, hshift, hlamps⟩ := hu
  generalize s.recalled i ρ = u at *
  rw [← hdrawn] at hdamaged hbits
  refine ⟨?_, hstart, hbits, hcount, hline.1, hline.2, fun hd => ?_, hsound, hshift, hlamps⟩
  · rwa [← hspeaks]
  · obtain ⟨hset, hsame, hmoves⟩ := hdamaged hd
    refine ⟨hset, hsame, combination_of_damaged hd, ?_⟩
    generalize passTargets s u.resolver.drawn s.sequencer = sq at *
    rw [hframe, hmoves]

/-- The start rule after a recall (R12, R61). -/
theorem State.Recalls.started {i : Nat} (h : s.Recalls i ρ u) : startRule u = { s with
    blockWrite := none
    resolver := { ρ { s.resolver with drawn := u.resolver.drawn } with speaking := u.resolver.speaks s.config.stops }
    sequencer := (startRule { s with sequencer := passTargets s u.resolver.drawn s.sequencer }).sequencer
    link := u.link
    outputs := u.outputs
    faults := u.faults } :=
  h.start.trans (congrArg (fun x : State => { x with
    sequencer := (startRule { s with sequencer := passTargets s u.resolver.drawn s.sequencer }).sequencer }) h.frame)

theorem exec_generalRecall_eq {a : Address} {d p l n o : Byte} (h : s.runsAndReads)
    (hp : pistonInRange .general p l = true) :
    ∃ u, exec (.generalRecall a d p l n o) s = .next (startRule u) ∧
      s.Recalls (l.toNat * 48 + (p.toNat - 1)) (Resolver.takeGeneral
        ⟨⟨a, n⟩, p.toNat, s.combination (l.toNat * 48 + (p.toNat - 1)), false, false⟩ l) u := by
  refine ⟨_, ?_, recalls_recalled h _ (keepsImage_takeGeneral _ l)⟩
  rw [exec_generalRecall_of_runsAndReads h hp, generalRecallEffect_eq]
  rfl

theorem exec_divisionalRecall_own {a : Address} {p l n o : Byte} (h : s.runsAndReads)
    (hp : pistonInRange .divisional p l = true) :
    ∃ u, exec (.divisionalRecall a (divisionByte s.straps.division) p l n o) s = .next (startRule (checkGeneral u)) ∧
      s.Recalls (6144 + l.toNat * 12 + (p.toNat - 1)) (Resolver.takeDivisional
        ⟨⟨a, n⟩, p.toNat, s.combination (6144 + l.toNat * 12 + (p.toNat - 1)), false, false⟩) u := by
  refine ⟨_, ?_, recalls_recalled h _ (keepsImage_takeDivisional _)⟩
  rw [exec_divisionalRecall_of_runsAndReads h hp (divisionInRange_own s), if_pos (by simp [State.ownDivision]),
    divisionalRecallEffect_eq]
  rfl

/-- Settles O43. -/
theorem recallsTakeTheRecord : Obligations.RecallsTakeTheRecord := by
  refine ⟨fun i k s => ⟨entryCode_eq_shift _ k, ?_⟩, fun a d p l n o s h hp hl => ⟨fun hp' => ?_, fun hd hp' => ?_,
    fun hd hd' hp' => ?_⟩⟩
  · refine (combination_getElem i k s).trans ?_
    generalize entryCode (s.store.answer i) k = c
    exact congrArg (ite _ _) (entryOfCode_eq_match c)
  · obtain ⟨u, hexec, hu⟩ := exec_generalRecall_eq (a := a) (d := d) (n := n) (o := o) h
      (pistonInRange_general.2 ⟨hp, hp', hl⟩)
    have hframe := hu.started
    obtain ⟨hstart, -, hbits, hcount, hline, hsending, hdamaged, hsound, hshift, hlamps⟩ := hu
    obtain ⟨hmoves, hstuck⟩ := startRule_moves_stuckCount u
    refine ⟨startRule u, hexec, ?_⟩
    rw [startRule_resolver, startRule_link, startRule_outputs, startRule_faults, hmoves, hstuck]
    refine ⟨hframe, fun k => ?_, hcount, hline, hsending, fun hd => ?_,
      fun hd => stuckFollows_congr (hsound hd) (startRule_link u) (startRule_faults u) hstuck, ?_,
      lampsFollow_congr hlamps (startRule_straps u) (startRule_resolver u) (by rw [startRule_outputs])⟩
    · rw [hbits]
      generalize (s.combination (l.toNat * 48 + (p.toNat - 1)))[k] = e
      cases e <;> rfl
    · obtain ⟨hset, hsame, hleave, hlist⟩ := hdamaged hd
      refine ⟨hset, hsame, ?_, hlist⟩
      rw [hstart, ← hleave]
      simp only [Resolver.takeGeneral]
    · rw [State.shiftFollows, startRule_resolver, startRule_outputs]
      exact hshift
  · subst hd
    obtain ⟨u, hexec, hu⟩ := exec_divisionalRecall_own (a := a) (p := p) (l := l) (n := n) (o := o) h
      (by simp [pistonInRange, hp, hp', hl])
    obtain ⟨hframe, -, hbits, hcount, hline, hsending, hdamaged, hsound, hshift, hlamps⟩ := hu
    refine ⟨u, hexec, hframe, fun k => ?_, hcount, hline, hsending, fun hd => ?_, hsound, hshift, hlamps⟩
    · rw [hbits]
      generalize (s.combination (6144 + l.toNat * 12 + (p.toNat - 1)))[k] = e
      cases e <;> rfl
    · obtain ⟨hset, hsame, hleave, hlist⟩ := hdamaged hd
      refine ⟨hset, hsame, ?_, hlist⟩
      rw [hframe, ← hleave]
      simp only [Resolver.takeDivisional]
  · obtain ⟨t, ht, hframe, hrefs, hlamps⟩ := lampReference_follows (s := s) hd' (some ⟨⟨a, n⟩, p.toNat, false⟩)
    refine ⟨t, ?_, hframe, hrefs, hlamps⟩
    rw [exec_divisionalRecall_of_runsAndReads h (by simp [pistonInRange, hp, hp', hl]) (by simp [divisionInRange, hd']),
      if_neg (by simpa [State.ownDivision] using hd), ht]

/-! ### Cancels -/

/-- What a general CANCEL leaves of the references and of tutti (R15, R87, R140). -/
def Resolver.cancelGeneral (v : Resolver) : Resolver :=
  { v with
    general := none, divisional := none, lampRefs := Vector.replicate 16 none
    tutti := false, tuttiAdd := StopSet.empty, tuttiSilence := StopSet.empty, tuttiLamp := false }

/-- What a divisional CANCEL leaves of the references (R16). -/
def Resolver.cancelDivisional (v : Resolver) : Resolver := { v with divisional := none }

/-- The state a cancel leaves before its departure check and its start rule (R15, R16). -/
def State.cancelled (ρ : Resolver → Resolver) (s : State) : State := s.frameTaken.registered StopSet.empty ρ

theorem generalCancelEffect_eq (s : State) :
    generalCancelEffect s.frameTaken = startRule (s.cancelled Resolver.cancelGeneral) := rfl

theorem divisionalCancelEffect_eq (s : State) :
    divisionalCancelEffect s.frameTaken = startRule (checkGeneral (s.cancelled Resolver.cancelDivisional)) := rfl

/-- A cancel, as far as the departure check and the start rule (R15, R16). -/
structure State.Cancels (s : State) (ρ : Resolver → Resolver) (u : State) : Prop where
  frame : u = { s with
    blockWrite := none
    resolver := { ρ { s.resolver with drawn := u.resolver.drawn } with speaking := u.resolver.speaks s.config.stops }
    sequencer := passTargets s StopSet.empty s.sequencer
    link := u.link
    outputs := u.outputs
    faults := u.faults }
  start : startRule u = { u with
    sequencer := (startRule { s with sequencer := passTargets s StopSet.empty s.sequencer }).sequencer }
  drawn : ∀ k : StopNo, u.resolver.drawn[k] = (decide (s.config.stops ≤ k.val) && s.resolver.drawn[k])
  stuck : { s with link := { s.link with line := .gap } }.stuckFollows u
  shift : s.shiftFollows u
  lamps : s.lampsFollow u

theorem drawnBy_empty (s : State) (k : StopNo) :
    (s.drawnBy StopSet.empty)[k] = (decide (s.config.stops ≤ k.val) && s.resolver.drawn[k]) := by
  rw [drawnBy_getElem, getElem_empty]
  by_cases hk : k.val < s.config.stops
  · rw [if_pos hk, decide_eq_false (by omega), Bool.false_and]
  · rw [if_neg hk, decide_eq_true (by omega), Bool.true_and]

theorem cancels_cancelled (h : s.runsAndReads) {ρ : Resolver → Resolver} (hdrawn : ∀ r, (ρ r).drawn = r.drawn)
    (hspeaking : ∀ r, (ρ r).speaking = r.speaking) : s.Cancels ρ (s.cancelled ρ) := by
  have hu : s.Registers StopSet.empty ρ { s.link with line := .gap } s.faults (s.cancelled ρ) :=
    registers_registered (live_of_running h.1) _ ⟨hdrawn, hspeaking⟩ _ _
  have hstart := hu.startRule_frame
  have hretired := drawnBy_empty s
  have hpass : passTargets s (s.cancelled ρ).resolver.drawn s.sequencer = passTargets s StopSet.empty s.sequencer := by
    refine passTargets_congr rfl rfl rfl (fun n hn => ?_) _
    rw [hu.drawn, drawnBy_getElem, if_pos hn]
  obtain ⟨hframe, hd, hspeaks, -, -, -, hstuck, hshift, hlamps⟩ := hu
  rw [hpass] at hstart hframe
  generalize s.cancelled ρ = u at *
  rw [← hd] at hretired
  exact ⟨by rwa [← hspeaks], hstart, hretired, hstuck _ ⟨rfl, rfl, rfl, rfl, rfl, rfl, rfl, rfl⟩, hshift, hlamps⟩

theorem exec_generalCancel_of_runsAndReads {a : Address} {d : Byte} (h : s.runsAndReads) :
    ∃ u, exec (.generalCancel a d) s = .next (startRule u) ∧ s.Cancels Resolver.cancelGeneral u := by
  refine ⟨_, ?_, cancels_cancelled h (fun _ => rfl) (fun _ => rfl)⟩
  rw [exec_generalCancel, execGeneralCancel, takeFrame_whenRunning _ h rfl rfl, generalCancelEffect_eq]

theorem exec_divisionalCancel_of_runsAndReads {a : Address} {d : Byte} (h : s.runsAndReads)
    (hd : divisionInRange d = true) :
    exec (.divisionalCancel a d) s = .next (if s.ownDivision d then divisionalCancelEffect s.frameTaken
      else refreshLamps (setLampReference (divisionOf d) none s.frameTaken)) := by
  rw [exec_divisionalCancel, execDivisionalCancel, takeFrame_whenRunning _ h rfl (by simp [State.rangeFault, hd])]
  rfl

theorem exec_divisionalCancel_own {a : Address} (h : s.runsAndReads) :
    ∃ u, exec (.divisionalCancel a (divisionByte s.straps.division)) s = .next (startRule (checkGeneral u)) ∧
      s.Cancels Resolver.cancelDivisional u := by
  refine ⟨_, ?_, cancels_cancelled h (fun _ => rfl) (fun _ => rfl)⟩
  rw [exec_divisionalCancel_of_runsAndReads h (divisionInRange_own s), if_pos (by simp [State.ownDivision]),
    divisionalCancelEffect_eq]

/-- Settles O44. -/
theorem cancelsRetireEveryStop : Obligations.CancelsRetireEveryStop := by
  refine fun a d s h => ⟨?_, fun hd => ?_, fun hd hd' => ?_⟩
  · obtain ⟨u, hexec, hframe, hstart, hdrawn, hstuck, hshift, hlamps⟩ :=
      exec_generalCancel_of_runsAndReads (a := a) (d := d) h
    refine ⟨startRule u, hexec, ?_⟩
    rw [startRule_resolver, startRule_link, startRule_outputs, startRule_faults]
    refine ⟨hstart.trans (congrArg (fun x : State => { x with
        sequencer := (startRule { s with sequencer := passTargets s StopSet.empty s.sequencer }).sequencer }) hframe),
      hdrawn, stuckFollows_congr hstuck (startRule_link u) (startRule_faults u) (startRule_moves_stuckCount u).2, ?_,
      lampsFollow_congr hlamps (startRule_straps u) (startRule_resolver u) (by rw [startRule_outputs])⟩
    rw [State.shiftFollows, startRule_resolver, startRule_outputs]
    exact hshift
  · subst hd
    obtain ⟨u, hexec, hframe, -, hdrawn, hstuck, hshift, hlamps⟩ := exec_divisionalCancel_own (a := a) h
    exact ⟨u, hexec, hframe, hdrawn, hstuck, hshift, hlamps⟩
  · obtain ⟨t, ht, hframe, hrefs, hlamps⟩ := lampReference_follows (s := s) hd' none
    refine ⟨t, ?_, hframe, hrefs, hlamps⟩
    rw [exec_divisionalCancel_of_runsAndReads h (by simp [divisionInRange, hd']),
      if_neg (by simpa [State.ownDivision] using hd), ht]

end

end Sys2Proof.Machine
end

section
/-! PROOF. The combination store: how a write is decided against the list, what a read answers, and how a write ends
(O55, O56). -/

namespace Sys2Proof.Machine

section
variable {s t : State} {st : Store}

/-! ### The place of an offered write -/

theorem replaceWrite_of_mem {e f : WriteEntry} {before after : List WriteEntry} (hf : f.index = e.index)
    (hbefore : ∀ x ∈ before, x.index ≠ e.index) :
    replaceWrite e (before ++ f :: after) = some (before ++ e :: after) := by
  induction before with
  | nil => simp [replaceWrite, hf]
  | cons x before ih =>
    obtain ⟨hx, hbefore⟩ := List.forall_mem_cons.1 hbefore
    rw [List.cons_append, replaceWrite, if_neg hx, ih hbefore]
    rfl

/-- A waiting entry of the index is replaced in place (R43). -/
theorem placeWrite_of_waiting (h : st.ListWf) {e f : WriteEntry} {before after : List WriteEntry}
    (hw : st.writes = before ++ f :: after) (hf : f.index = e.index) (hidle : before = [] → st.stage = none) :
    st.placeWrite e = some (before ++ e :: after) := by
  have hunique {l : List WriteEntry} (hl : st.waiting = l ++ f :: after) : ∀ x ∈ l, x.index ≠ e.index := by
    intro x hx he
    have hnodup := h.nodup
    rw [hl, List.map_append, List.nodup_append] at hnodup
    exact hnodup.2.2 x.index (List.mem_map_of_mem hx) f.index (by simp) (he.trans hf.symm)
  unfold Store.placeWrite
  cases hs : st.stage with
  | none =>
    have hwaiting : st.waiting = before ++ f :: after := by simp [Store.waiting, hs, hw]
    rw [hwaiting, replaceWrite_of_mem hf (hunique hwaiting)]
    rfl
  | some stage =>
    cases before with
    | nil => simp [hidle rfl] at hs
    | cons x before =>
      have hwaiting : st.waiting = before ++ f :: after := by simp [Store.waiting, hs, hw]
      rw [hwaiting, replaceWrite_of_mem hf (hunique hwaiting), hw]
      rfl

theorem placeWrite_of_new {e : WriteEntry} (h : ∀ x ∈ st.waiting, x.index ≠ e.index) :
    st.placeWrite e = if st.writes.length < writeLimit then some (st.writes ++ [e]) else none := by
  rw [Store.placeWrite, replaceWrite_eq_none.2 h]

theorem offerWrite_of_some {i : Nat} {b : EntryBytes} {c : Source} {ws : List WriteEntry}
    (h : s.store.placeWrite ⟨i, b, c⟩ = some ws) :
    offerWrite i b c s = (startWrite { s with store := { s.store with writes := ws } }, true) := by
  rw [offerWrite, h]

theorem offerWrite_of_none {i : Nat} {b : EntryBytes} {c : Source} (h : s.store.placeWrite ⟨i, b, c⟩ = none) :
    offerWrite i b c s = (setFlag .storeFull s, false) := by
  rw [offerWrite, h]

theorem startWrite_of_head {e : WriteEntry} {ws : List WriteEntry} (hs : s.store.stage = none)
    (hw : s.store.writes = e :: ws) (hg : s.pins.supplyGood = true) (hl : s.live = true) :
    startWrite s = { s with store := s.store.begun e } := by
  simp only [startWrite, hs, hw, hg, hl, Bool.and_self, if_true, Store.begun]

theorem startWrite_of_held (h : s.store.stage ≠ none ∨ s.store.writes = [] ∨ s.pins.supplyGood = false ∨ s.live = false) :
    startWrite s = s := by
  rcases startWrite_cases s with e | ⟨e, ws, hw, hs, hg, hl, -⟩
  · exact e
  · simp [hs, hw, hg, hl] at h

theorem Source.beq_eq_decide (c : Source) : (c == .capture) = decide (c = .capture) := by cases c <;> rfl

/-- Settles O55. -/
theorem offeredWritesAreDecidedAgainstTheList : Obligations.OfferedWritesAreDecidedAgainstTheList := by
  intro i bytes source s h
  have hlist := State.writeListLaw_iff.1 h
  refine ⟨fun before e after hw he hidle => ?_, fun hnew hlt => ?_, fun hnew hfull => ?_,
    fun e ws hm hs hw hg hl => ?_, startWrite_of_held⟩
  · exact offerWrite_of_some (placeWrite_of_waiting hlist hw he hidle)
  · exact offerWrite_of_some ((placeWrite_of_new hnew).trans (if_pos hlt))
  · exact offerWrite_of_none ((placeWrite_of_new hnew).trans (if_neg (by simp [writeLimit, hfull])))
  · refine ⟨_, startWrite_of_head hs hw hg hl, ?_, fun j hj => Memory.read_write_other _ hm hj⟩
    rw [Memory.read_write_same _ _ hm, Record.begun, Source.beq_eq_decide]

/-! ### What a read answers -/

theorem newestWrite_of_last {w : WriteEntry} {before after : List WriteEntry} {i : Nat} (hw : w.index = i)
    (hafter : ∀ x ∈ after, x.index ≠ i) : newestWrite (before ++ w :: after) i = some w := by
  have hnone : after.filter (fun e => e.index == i) = [] := List.filter_eq_nil_iff.2 fun x hx => by simp [hafter x hx]
  simp [newestWrite, List.filter_append, hw, hnone]

theorem newestWrite_of_absent {l : List WriteEntry} {i : Nat} (h : ∀ x ∈ l, x.index ≠ i) : newestWrite l i = none := by
  rw [newestWrite, List.filter_eq_nil_iff.2 fun x hx => by simp [h x hx]]
  rfl

/-- A read of an index in the write list (R37). -/
theorem read_of_newest {w : WriteEntry} {i : Nat} (h : newestWrite st.writes i = some w) :
    st.answer i = w.bytes ∧ st.readDamaged i = false ∧ st.changedFlag i = decide (w.source = .capture) := by
  simp only [Store.answer, Store.readDamaged, Store.changedFlag, h, Source.beq_eq_decide, and_self]

/-- A read of an index that the write list does not hold (R37, R38). -/
theorem read_of_array {i : Nat} (h : newestWrite st.writes i = none) :
    st.answer i = (st.array.read i).answer ∧ st.readDamaged i = (st.array.read i).damaged ∧
      st.changedFlag i = (st.array.read i).changed := by
  simp only [Store.answer, Store.readDamaged, Store.changedFlag, h, and_self]

theorem Record.answer_of_unwritten {r : Record} (h : r.written = false) : r.answer = allLeave ∧ r.damaged = false := by
  simp [Record.answer, Record.damaged, h]

theorem Record.answer_of_sound {r : Record} (h : r.written = true) (hsum : r.bytes.toList.sum + r.check = 0#8) :
    r.answer = r.bytes ∧ r.damaged = false := by
  simp only [Record.answer, Record.damaged, passesCheck, byteSum, h, hsum, beq_self_eq_true, Bool.not_true, Bool.and_false,
    Bool.not_false, Bool.and_true, if_true, and_self]

theorem Record.answer_of_damaged {r : Record} (h : r.written = true) (hsum : r.bytes.toList.sum + r.check ≠ 0#8) :
    r.answer = allLeave ∧ r.damaged = true := by
  have hne : (r.bytes.toList.sum + r.check == 0#8) = false := beq_eq_false_iff_ne.2 hsum
  simp only [Record.answer, Record.damaged, passesCheck, byteSum, h, hne, Bool.not_false, Bool.and_true, Bool.not_true,
    Bool.and_false, Bool.false_eq_true, if_false, and_self]

/-! ### The end of a write -/

/-- The record of an entry once its bytes have landed; the other records stay (R45). -/
theorem Memory.read_land {m : Memory} (h : m.wf = true) (i : Nat) (a : ArrayBytes) :
    (m.land i a).read i = { m.read i with bytes := a.bytes, check := a.check } ∧
      ∀ j, j ≠ i → (m.land i a).read j = m.read j :=
  ⟨Memory.read_write_same _ _ h, fun _ hj => Memory.read_write_other _ h hj⟩

/-- The store once the head entry has left its list, its bytes having landed (R46, R47). -/
abbrev Store.landed (st : Store) (i : Nat) (a : ArrayBytes) (ws : List WriteEntry) : Store :=
  { st with array := st.array.land i a, writes := ws, stage := none }

theorem verifyHead_of_meant {e : WriteEntry} {ws : List WriteEntry} {r : Option ArrayBytes} (hw : s.store.writes = e :: ws)
    (hr : r.getD e.meant = e.meant) :
    verifyHead e r s = startWrite { s with store := s.store.landed e.index e.meant ws } := by
  simp only [verifyHead, hr, if_true, writeDone, hw, List.drop_one, List.tail_cons]

theorem verifyHead_of_other {e : WriteEntry} {x : ArrayBytes} (hx : x ≠ e.meant) :
    verifyHead e (some x) s =
      { s with store := { s.store with array := s.store.array.land e.index x, stage := some .forcing } } := by
  simp only [verifyHead, Option.getD_some, if_neg hx]

/-- A report reads nothing of the store and leaves it alone (R193). -/
theorem setFlag_withStore (f : Flag) (store : Store) (s : State) :
    setFlag f { s with store := store } = { setFlag f s with store := store } := by
  have halike : ReadsAlike s { s with store := store } := ⟨rfl, rfl, rfl, rfl, rfl, rfl, rfl, rfl⟩
  have h := halike.setFlag f
  conv_lhs => rw [setFlag_frame, h.link, h.faults]
  conv_rhs => rw [setFlag_frame]

theorem forcingEnds_eq {e : WriteEntry} {ws : List WriteEntry} (held : Option ArrayBytes)
    (hw : s.store.writes = e :: ws) : forcingEnds e held s = startWrite { setFlag .damaged s with
      store := s.store.landed e.index
        (held.getD ⟨(s.store.array.read e.index).bytes, forcedCheck (s.store.array.read e.index).bytes⟩) ws } := by
  rw [forcingEnds, writeDone, setFlag_withStore]
  simp only [hw, List.drop_one, List.tail_cons]

theorem startGoesOn_of_live (h : s.live = true) : startGoesOn s = s := by
  rw [startGoesOn, if_neg]
  rintro ⟨hn, -⟩
  simp [State.live, hn] at h

theorem startGoesOn_of_lineHeld (h : s.node = .starting .lineHeld) : startGoesOn s = s := by
  rw [startGoesOn, if_neg]
  rintro ⟨hn, -⟩
  simp [h] at hn

theorem startGoesOn_of_writing (h : s.store.stage ≠ none) : startGoesOn s = s := by
  rw [startGoesOn, if_neg fun hn => h hn.2]

theorem startGoesOn_of_finishing (h : s.node = .starting .storeFinishing) (hs : s.store.stage = none) :
    startGoesOn s = startLoad s := if_pos ⟨h, hs⟩

theorem startGoesOn_store (s : State) : (startGoesOn s).store = s.store := by
  unfold startGoesOn
  split
  · rfl
  · rfl

theorem strapReading_eq {y : Straps} {ys : List Straps} {p : Pins}
    (h : p.strapsToCome = [] ∧ y = p.straps ∧ ys = [] ∨ p.strapsToCome = y :: ys) : p.strapReading = y := by
  rcases h with ⟨hnone, rfl, -⟩ | hsome
  · simp [Pins.strapReading, hnone]
  · simp [Pins.strapReading, hsome]

/-- A write has ended: what the store does with the next, and what a start that waited for it does (R46, R47, R48). -/
theorem writeEnded_goesOn {st : Store} (hs : st.stage = none) :
    (s.live = true → startGoesOn (startWrite { s with store := st }) = startWrite { s with store := st }) ∧
    (s.node = .starting .lineHeld → startGoesOn (startWrite { s with store := st }) = { s with store := st }) ∧
    (s.node = .starting .storeFinishing → ∃ t, startGoesOn (startWrite { s with store := st }) = t ∧
      t.node = .starting (.ready (configFault s.pins.strapReading s.block)) ∧ t.straps = s.pins.strapReading ∧
      t.config = configAtStart s.pins.strapReading s.block ∧ t.store = st) := by
  have hheld (h : s.live = false) : startWrite { s with store := st } = { s with store := st } :=
    startWrite_of_held (.inr (.inr (.inr h)))
  refine ⟨fun hl => ?_, fun hn => ?_, fun hn => ?_⟩
  · exact startGoesOn_of_live (by rwa [live_congr (startWrite_node _)])
  · rw [hheld (by simp [State.live, hn]), startGoesOn_of_lineHeld (s := { s with store := st }) hn]
  · rw [hheld (by simp [State.live, hn]), startGoesOn_of_finishing (s := { s with store := st }) hn hs]
    exact ⟨_, rfl, rfl, rfl, rfl, rfl⟩

/-- Once its write has ended, an index that no other entry names reads from the array (R37, R38). -/
theorem writeEnded_read {st : Store} (hm : st.array.wf = true) {i : Nat} (hw : ∀ w ∈ st.writes, w.index ≠ i) (s : State) :
    (startGoesOn (startWrite { s with store := st })).store.answer i = (st.array.read i).answer ∧
      (startGoesOn (startWrite { s with store := st })).store.readDamaged i = (st.array.read i).damaged := by
  rw [startGoesOn_store]
  have hread (r : Store) (hr : r.writes = st.writes) (ha : r.array.read i = st.array.read i) :
      r.answer i = (st.array.read i).answer ∧ r.readDamaged i = (st.array.read i).damaged := by
    obtain ⟨hanswer, hdamaged, -⟩ := read_of_array (newestWrite_of_absent (hr ▸ hw))
    exact ⟨by rw [hanswer, ha], by rw [hdamaged, ha]⟩
  rcases startWrite_cases { s with store := st } with e | ⟨e, ws, hws, -, -, -, heq⟩
  · rw [e]
    exact hread st rfl rfl
  · rw [heq]
    have he : i ≠ e.index := fun he => hw e (hws ▸ List.mem_cons_self) he.symm
    exact hread (st.begun e) rfl (Memory.read_write_other _ hm he)

theorem exec_writeVerify_of_storing {e : WriteEntry} {ws : List WriteEntry} (hw : s.store.writes = e :: ws)
    (hs : s.store.stage = some .storing) (hp : s.powered = true) (r : Option ArrayBytes) :
    exec (.writeVerify r) s = .next (startGoesOn (verifyHead e r s)) := by
  simp only [exec_writeVerify, execWriteVerify, hs, hw, hp, if_true]

theorem exec_forcingWriteEnd_of_forcing {e : WriteEntry} {ws : List WriteEntry} (hw : s.store.writes = e :: ws)
    (hs : s.store.stage = some .forcing) (hp : s.powered = true) (r : Option ArrayBytes) :
    exec (.forcingWriteEnd r) s = .next (startGoesOn (forcingEnds e r s)) := by
  simp only [exec_forcingWriteEnd, execForcingWriteEnd, hs, hw, hp, if_true]

theorem powered_of_live (h : s.live = true) : s.powered = true := by
  unfold State.live at h
  cases hn : s.node <;> simp_all [State.powered]

theorem powered_of_starting {p : StartPhase} (h : s.node = .starting p) : s.powered = true := by
  simp [State.powered, h]

theorem balanced (bytes : EntryBytes) : bytes.toList.sum + balance bytes = 0#8 := by
  rw [balance, byteSum]
  exact BitVec.add_right_neg _

theorem forced_unbalanced (bytes : EntryBytes) : bytes.toList.sum + forcedCheck bytes ≠ 0#8 := by
  rw [forcedCheck, ← BitVec.add_assoc, balanced]
  decide

theorem headWritten (h : s.writeListLaw) {e : WriteEntry} {ws : List WriteEntry} (hw : s.store.writes = e :: ws)
    (hs : s.store.stage ≠ none) : (s.store.array.read e.index).written = true :=
  ((State.writeListLaw_iff.1 h).head hs).2 e (by simp [hw])

/-- What a read answers, by the write list and the array (R37, R38). -/
theorem read_answers (i : Nat) (s : State) :
    (∀ before w after, s.store.writes = before ++ w :: after → w.index = i → (∀ x ∈ after, x.index ≠ i) →
      s.store.answer i = w.bytes ∧ s.store.readDamaged i = false ∧
        s.store.changedFlag i = decide (w.source = .capture)) ∧
    ((∀ w ∈ s.store.writes, w.index ≠ i) →
      s.store.changedFlag i = (s.store.array.read i).changed ∧
      ((s.store.array.read i).written = false → s.store.answer i = allLeave ∧ s.store.readDamaged i = false) ∧
      ((s.store.array.read i).written = true → (s.store.array.read i).bytes.toList.sum + (s.store.array.read i).check = 0#8 →
        s.store.answer i = (s.store.array.read i).bytes ∧ s.store.readDamaged i = false) ∧
      ((s.store.array.read i).written = true → (s.store.array.read i).bytes.toList.sum + (s.store.array.read i).check ≠ 0#8 →
        s.store.answer i = allLeave ∧ s.store.readDamaged i = true)) := by
  refine ⟨fun before w after hw hi hafter => ?_, fun habsent => ?_⟩
  · exact read_of_newest (by rw [hw, newestWrite_of_last hi hafter])
  · obtain ⟨hanswer, hdamaged, hchanged⟩ := read_of_array (newestWrite_of_absent habsent)
    rw [hanswer, hdamaged]
    exact ⟨hchanged, Record.answer_of_unwritten, Record.answer_of_sound, Record.answer_of_damaged⟩

/-- WRITE_VERIFY that reads back what was meant (R46). -/
theorem writeVerify_meant {e : WriteEntry} {ws : List WriteEntry} (hw : s.store.writes = e :: ws)
    (hs : s.store.stage = some .storing) (hm : s.memoryLaw) {r : Option ArrayBytes} (hr : r.getD e.meant = e.meant) :
    (s.powered = true → exec (.writeVerify r) s =
      .next (startGoesOn (startWrite { s with store := s.store.landed e.index e.meant ws }))) ∧
    (s.writeListLaw → s.powered = true → (∀ w ∈ ws, w.index ≠ e.index) →
      ∃ t, exec (.writeVerify r) s = .next t ∧ t.store.answer e.index = e.bytes ∧
        t.store.readDamaged e.index = false) := by
  have hexec (hp : s.powered = true) : exec (.writeVerify r) s =
      .next (startGoesOn (startWrite { s with store := s.store.landed e.index e.meant ws })) := by
    rw [exec_writeVerify_of_storing hw hs hp, verifyHead_of_meant hw hr]
  refine ⟨hexec, fun hl hp hws => ⟨_, hexec hp, ?_⟩⟩
  obtain ⟨hanswer, hdamaged⟩ :=
    writeEnded_read (st := s.store.landed e.index e.meant ws) (Memory.land_wf _ _ hm) hws s
  obtain ⟨hrecord, -⟩ := Memory.read_land hm e.index e.meant
  have hwritten := headWritten hl hw (by simp [hs])
  rw [hanswer, hdamaged, hrecord]
  exact Record.answer_of_sound hwritten (balanced e.bytes)

/-- FORCING_WRITE_END (R47). -/
theorem forcingWriteEnd_landed {e : WriteEntry} {ws : List WriteEntry} (hw : s.store.writes = e :: ws)
    (hs : s.store.stage = some .forcing) (hm : s.memoryLaw) {held : Option ArrayBytes} {x : ArrayBytes}
    (hx : held.getD ⟨(s.store.array.read e.index).bytes, forcedCheck (s.store.array.read e.index).bytes⟩ = x) :
    (s.powered = true → exec (.forcingWriteEnd held) s =
      .next (startGoesOn (startWrite { setFlag .damaged s with store := s.store.landed e.index x ws }))) ∧
    (s.writeListLaw → s.powered = true → (∀ w ∈ ws, w.index ≠ e.index) →
      ∃ t, exec (.forcingWriteEnd held) s = .next t ∧
        (x.bytes.toList.sum + x.check = 0#8 →
          t.store.answer e.index = x.bytes ∧ t.store.readDamaged e.index = false) ∧
        (x.bytes.toList.sum + x.check ≠ 0#8 →
          t.store.answer e.index = allLeave ∧ t.store.readDamaged e.index = true)) := by
  have hexec (hp : s.powered = true) : exec (.forcingWriteEnd held) s =
      .next (startGoesOn (startWrite { setFlag .damaged s with store := s.store.landed e.index x ws })) := by
    rw [exec_forcingWriteEnd_of_forcing hw hs hp, forcingEnds_eq held hw, hx]
  refine ⟨hexec, fun hl hp hws => ⟨_, hexec hp, ?_⟩⟩
  obtain ⟨hanswer, hdamaged⟩ :=
    writeEnded_read (st := s.store.landed e.index x ws) (Memory.land_wf _ _ hm) hws (setFlag .damaged s)
  obtain ⟨hrecord, -⟩ := Memory.read_land hm e.index x
  have hwritten := headWritten hl hw (by simp [hs])
  rw [hanswer, hdamaged, hrecord]
  exact ⟨fun hsum => Record.answer_of_sound hwritten hsum, fun hsum => Record.answer_of_damaged hwritten hsum⟩

/-- A start reports nothing (R193). -/
theorem setFlag_of_not_live (f : Flag) (h : s.live = false) : setFlag f s = s := by
  simp [setFlag, h]

/-- Settles O56. -/
theorem writesEndWithAVerify : Obligations.WritesEndWithAVerify := by
  refine ⟨fun i s => ⟨(read_answers i s).1, (read_answers i s).2, rfl⟩, fun y ys e ws s hw hm hy => ?_⟩
  have hstraps := strapReading_eq hy
  refine ⟨fun hs => ?_, fun hs held => ?_⟩
  · obtain ⟨hrecord, hother⟩ := Memory.read_land hm e.index e.meant
    refine ⟨_, balance e.bytes, hrecord, balanced e.bytes, hother, fun good hgood => ?_, fun x hx hp => ?_⟩
    · have hr : good.getD e.meant = e.meant := by rcases hgood with rfl | rfl <;> rfl
      obtain ⟨hexec, hread⟩ := writeVerify_meant hw hs hm hr
      obtain ⟨hlive, hheld, hfinishing⟩ := writeEnded_goesOn (s := s) (st := s.store.landed e.index e.meant ws) rfl
      rw [hstraps] at hfinishing
      refine ⟨hread, fun hl => ?_, fun hn => ?_, fun hn => ?_⟩
      · rw [hexec (powered_of_live hl), hlive hl]
      · rw [hexec (powered_of_starting hn), hheld hn]
      · obtain ⟨t, ht, hfacts⟩ := hfinishing hn
        exact ⟨t, by rw [hexec (powered_of_starting hn), ht], hfacts⟩
    · obtain ⟨hrecord', hother'⟩ := Memory.read_land hm e.index x
      refine ⟨_, ?_, hrecord', hother'⟩
      rw [exec_writeVerify_of_storing hw hs hp, verifyHead_of_other hx, startGoesOn_of_writing (by simp)]
  · obtain ⟨x, hx⟩ : ∃ x, held.getD
      ⟨(s.store.array.read e.index).bytes, forcedCheck (s.store.array.read e.index).bytes⟩ = x := ⟨_, rfl⟩
    obtain ⟨hrecord, hother⟩ := Memory.read_land hm e.index x
    obtain ⟨hexec, hread⟩ := forcingWriteEnd_landed hw hs hm hx
    have hfree (hl : s.live = false) := setFlag_of_not_live .damaged hl
    refine ⟨_, x, ?_, ?_, hrecord, hother, hread, fun hl => ⟨?_, has_setFlag hl⟩, fun hn => ?_, fun hn => ?_⟩
    · rintro rfl
      subst hx
      exact ⟨rfl, forced_unbalanced _⟩
    · rintro h rfl
      exact hx.symm
    · obtain ⟨hlive, -, -⟩ := writeEnded_goesOn (s := setFlag .damaged s) (st := s.store.landed e.index x ws) rfl
      rw [hexec (powered_of_live hl), hlive (by rwa [live_congr (setFlag_node .damaged s)])]
    · obtain ⟨-, hheld, -⟩ := writeEnded_goesOn (s := s) (st := s.store.landed e.index x ws) rfl
      rw [hexec (powered_of_starting hn), hfree (by simp [State.live, hn]), hheld hn]
    · obtain ⟨-, -, hfinishing⟩ := writeEnded_goesOn (s := s) (st := s.store.landed e.index x ws) rfl
      rw [hstraps] at hfinishing
      obtain ⟨t, ht, hfacts⟩ := hfinishing hn
      exact ⟨t, by rw [hexec (powered_of_starting hn), hfree (by simp [State.live, hn]), ht], hfacts⟩

end

end Sys2Proof.Machine
end

section
/-! PROOF. The frames that store, darken and set: CAPTURE, DEVIATE, LEVEL and LOCK (O45, O46). -/

namespace Sys2Proof.Machine

section
variable {s t u : State} {st : Store}

/-! ### Codes of entries -/

theorem packed_code (a b c d : BitVec 2) : (d ++ c ++ b ++ a).extractLsb' 0 2 = a ∧ (d ++ c ++ b ++ a).extractLsb' 2 2 = b ∧
    (d ++ c ++ b ++ a).extractLsb' 4 2 = c ∧ (d ++ c ++ b ++ a).extractLsb' 6 2 = d := by
  revert a b c d; decide

/-- The code of a stop in the packed bytes is the code of its entry (R31, R33). -/
theorem entryCode_packEntries (entries : Stops Entry) (k : StopNo) :
    entryCode (packEntries entries) k = codeOfEntry entries[k] := by
  obtain ⟨k, hk⟩ := k
  obtain ⟨q, r, hq, hr, rfl⟩ : ∃ q r, q < 16 ∧ r < 4 ∧ k = 4 * q + r := ⟨k / 4, k % 4, by omega, by omega, by omega⟩
  have hdiv : (4 * q + r) / 4 = q := by omega
  have hmod : (4 * q + r) % 4 = r := by omega
  unfold entryCode
  simp only [hdiv, hmod, packEntries, getElem_table]
  obtain ⟨h0, h1, h2, h3⟩ := packed_code (codeOfEntry (entries[4 * q]'(by omega))) (codeOfEntry (entries[4 * q + 1]'(by omega)))
    (codeOfEntry (entries[4 * q + 2]'(by omega))) (codeOfEntry (entries[4 * q + 3]'(by omega)))
  have hcases : r = 0 ∨ r = 1 ∨ r = 2 ∨ r = 3 := by omega
  rcases hcases with rfl | rfl | rfl | rfl
  · exact h0
  · exact h1
  · exact h2
  · exact h3

theorem entryOfCode_codeOfEntry (e : Entry) : entryOfCode (codeOfEntry e) = e := by cases e <;> rfl

/-- Packed entries read back, where no stop at or above S has one (R9, R33). -/
theorem combinationView_packEntries {entries : Stops Entry} {stops : Nat}
    (h : ∀ k : StopNo, stops ≤ k.val → entries[k] = .leave) : combinationView stops (packEntries entries) = entries := by
  refine table_ext fun k => ?_
  rw [combinationView, getElem_table_fin, entryCode_packEntries, entryOfCode_codeOfEntry]
  by_cases hk : k.val < stops
  · rw [if_pos hk]
  · rw [if_neg hk, h k (by omega)]

/-! ### What an offered write leaves a read answering -/

/-- A write leaves the reads of every other index, in an array of any form. -/
theorem Memory.read_write_elsewhere (m : Memory) {i k : Nat} (r : Record) (hk : k ≠ i) : (m.write i r).read k = m.read k := by
  induction m with
  | nil =>
    unfold Memory.write
    split <;> simp [Memory.read_cons, Memory.read_nil, hk.symm]
  | cons c m ih =>
    obtain ⟨j, q⟩ := c
    unfold Memory.write
    split
    · split
      · rfl
      · rw [Memory.read_cons, if_neg hk.symm]
    · split
      · subst i
        split
        · rw [Memory.read_cons, if_neg hk.symm]
        · rw [Memory.read_cons, Memory.read_cons, if_neg hk.symm, if_neg hk.symm]
      · rw [Memory.read_cons, Memory.read_cons, ih]

/-- A write that has begun changes no answer: its entry still heads the list (R37). -/
theorem startWrite_answer (s : State) (j : Nat) : (startWrite s).store.answer j = s.store.answer j := by
  rcases startWrite_cases s with e | ⟨e, ws, hw, -, -, -, heq⟩
  · rw [e]
  · rw [heq]
    unfold Store.answer
    dsimp only
    cases hnew : newestWrite s.store.writes j with
    | some w => rfl
    | none =>
      have hj : j ≠ e.index := by
        rintro rfl
        have hmem : e ∈ s.store.writes.filter fun x => x.index == e.index := by simp [hw]
        rw [newestWrite, List.getLast?_eq_none_iff] at hnew
        simp [hnew] at hmem
      simp only [Memory.read_write_elsewhere _ _ hj]

theorem startWrite_writes (s : State) : (startWrite s).store.writes = s.store.writes := by
  rcases startWrite_cases s with e | ⟨e, ws, -, -, -, -, heq⟩
  · rw [e]
  · rw [heq]

/-- The newest entry of the index is the write just placed (R42, R43). -/
theorem newestWrite_placeWrite (h : st.ListWf) {e : WriteEntry} {ws : List WriteEntry} (hp : st.placeWrite e = some ws) :
    newestWrite ws e.index = some e := by
  rcases Store.placeWrite_eq_some hp with ⟨r, hr, rfl⟩ | ⟨-, -, rfl⟩
  · obtain ⟨before, f, after, hw, hf, rfl⟩ := replaceWrite_eq_some hr
    have hafter : ∀ x ∈ after, x.index ≠ e.index := by
      intro x hx he
      have hnodup := h.nodup
      rw [hw, List.map_append, List.nodup_append, List.map_cons, List.nodup_cons] at hnodup
      exact hnodup.2.1.1 (by rw [hf, ← he]; exact List.mem_map_of_mem hx)
    rw [← List.append_assoc]
    exact newestWrite_of_last rfl hafter
  · exact newestWrite_of_last rfl nofun

/-- A placed write leaves the newest entry of every other index (R42, R43). -/
theorem newestWrite_placeWrite_other {e : WriteEntry} {ws : List WriteEntry} (hp : st.placeWrite e = some ws) {j : Nat}
    (hj : j ≠ e.index) : newestWrite ws j = newestWrite st.writes j := by
  unfold newestWrite
  congr 1
  rcases Store.placeWrite_eq_some hp with ⟨r, hr, rfl⟩ | ⟨-, -, rfl⟩
  · obtain ⟨before, f, after, hw, hf, rfl⟩ := replaceWrite_eq_some hr
    conv_rhs => rw [st.writes_eq, hw]
    simp [hf, hj.symm]
  · simp [hj.symm]

theorem offerWrite_admitted {i : Nat} {b : EntryBytes} {c : Source} (h : s.writeListLaw) (ha : (offerWrite i b c s).2 = true) :
    (offerWrite i b c s).1.store.answer i = b ∧ (offerWrite i b c s).1.store.changedFlag i = decide (c = .capture) ∧
      (offerWrite i b c s).1.faults = s.faults := by
  rcases offerWrite_cases i b c s with ⟨ws, hp, e⟩ | ⟨-, e⟩
  · have hnew : newestWrite ws i = some ⟨i, b, c⟩ := newestWrite_placeWrite (State.writeListLaw_iff.1 h) hp
    rw [e]
    dsimp only
    obtain ⟨hanswer, -, hchanged⟩ := read_of_newest (i := i)
      (st := (startWrite { s with store := { s.store with writes := ws } }).store) (by rw [startWrite_writes]; exact hnew)
    exact ⟨hanswer, hchanged, startWrite_faults _⟩
  · rw [e] at ha
    cases ha

theorem offerWrite_refused {i : Nat} {b : EntryBytes} {c : Source} (hl : s.live = true)
    (hr : (offerWrite i b c s).2 = false) :
    (offerWrite i b c s).1.store = s.store ∧ (offerWrite i b c s).1.faults.has .storeFull = true := by
  rcases offerWrite_cases i b c s with ⟨ws, hp, e⟩ | ⟨-, e⟩
  · rw [e] at hr
    cases hr
  · rw [e]
    exact ⟨setFlag_store _ _, has_setFlag hl⟩

theorem offerWrite_other {i : Nat} (b : EntryBytes) (c : Source) (s : State) {j : Nat} (hj : j ≠ i) :
    (offerWrite i b c s).1.store.answer j = s.store.answer j := by
  rcases offerWrite_cases i b c s with ⟨ws, hp, e⟩ | ⟨-, e⟩ <;> rw [e]
  · rw [startWrite_answer, Store.answer, Store.answer, newestWrite_placeWrite_other hp hj]
  · rw [setFlag_store]

/-! ### Captures -/

theorem generalCaptureEntries_getElem (k : StopNo) (s : State) : s.generalCaptureEntries[k] =
    if s.config.stops ≤ k.val ∨ s.config.excluded[k] = true then Entry.leave
    else if s.resolver.drawn[k] then .draw else .retire := by
  rw [State.generalCaptureEntries, getElem_table_fin]
  by_cases hk : s.config.stops ≤ k.val
  · simp [State.serves, hk]
  · cases hx : s.config.excluded[k] <;> simp [State.serves, hk]

theorem divisionalCaptureEntries_getElem (k : StopNo) (s : State) : s.divisionalCaptureEntries[k] =
    if s.config.stops ≤ k.val then Entry.leave else if s.resolver.drawn[k] then .draw else .retire := by
  rw [State.divisionalCaptureEntries, getElem_table_fin]
  by_cases hk : s.config.stops ≤ k.val <;> simp [State.serves, hk]

theorem blinkPiston_refreshLamps_getElem (kind : BlinkKind) (p : Piston) (u : State) (i : Fin 16) :
    (blinkPiston kind p (refreshLamps u)).outputs.lamps[i] =
      ⟨u.steadyValue u.config.pistons[i],
        if u.config.pistons[i] = some p then some kind.start else (u.outputs.lamps[i]).blink⟩ := by
  unfold blinkPiston
  simp only [refreshLamps, Fin.getElem_fin, Vector.getElem_mapFinIdx]
  split <;> rfl

theorem blinkPiston_frame (kind : BlinkKind) (p : Piston) (s : State) : blinkPiston kind p s =
    { s with outputs := { s.outputs with lamps := (blinkPiston kind p s).outputs.lamps } } := rfl

theorem captureBlink_start (admitted : Bool) :
    (captureBlink admitted).start = if admitted then ⟨.slow, 6, 500⟩ else ⟨.fast, 8, 125⟩ := by
  cases admitted <;> rfl

/-- What a capture makes of a node whose frame has been taken, `ρ` the reference it leaves (R17, R19, R20, R94). -/
def State.captured (i : Nat) (entries : Stops Entry) (ρ : Resolver → Resolver) (p : Piston) (s : State) : State :=
  let w := offerWrite i (packEntries entries) .capture s
  blinkPiston (captureBlink w.2) p (refreshLamps { w.1 with resolver := ρ w.1.resolver })

theorem captured_frame (i : Nat) (entries : Stops Entry) (ρ : Resolver → Resolver) (p : Piston) (s : State) :
    s.captured i entries ρ p = { (offerWrite i (packEntries entries) .capture s).1 with
      resolver := ρ s.resolver
      outputs := { s.outputs with lamps := (s.captured i entries ρ p).outputs.lamps } } := by
  obtain ⟨lamps, e⟩ : ∃ lamps, s.captured i entries ρ p = { (offerWrite i (packEntries entries) .capture s).1 with
      resolver := ρ (offerWrite i (packEntries entries) .capture s).1.resolver
      outputs := { (offerWrite i (packEntries entries) .capture s).1.outputs with lamps := lamps } } := ⟨_, rfl⟩
  rw [e, offerWrite_fst_resolver, offerWrite_fst_outputs]

/-- The lamps and the record after a capture (R17, R20, R36, R44, R94). -/
theorem captured_follows (hw : s.writeListLaw) (hl : s.live = true) (i : Nat) {entries : Stops Entry}
    (hleave : ∀ k : StopNo, s.config.stops ≤ k.val → entries[k] = .leave) (ρ : Resolver → Resolver) (p : Piston) :
    let w := offerWrite i (packEntries entries) .capture s
    let t := s.captured i entries ρ p
    (w.2 = true → t.combination i = entries ∧ t.store.changedFlag i = true ∧ t.faults = s.faults) ∧
      (w.2 = false → t.store = s.store ∧ t.faults.has .storeFull = true) ∧
      (∀ j, j ≠ i → t.store.answer j = s.store.answer j) ∧
      ∀ k : Fin 16, t.outputs.lamps[k] =
        ⟨t.steadyValue s.config.pistons[k],
          if s.config.pistons[k] = some p then some (if w.2 then ⟨.slow, 6, 500⟩ else ⟨.fast, 8, 125⟩)
          else (s.outputs.lamps[k]).blink⟩ := by
  intro w t
  have hstore : t.store = w.1.store := by
    simp only [t, w]
    rw [captured_frame]
  have hfaults : t.faults = w.1.faults := by
    simp only [t, w]
    rw [captured_frame]
  refine ⟨fun ha => ?_, fun hr => ?_, fun j hj => ?_, fun k => ?_⟩
  · obtain ⟨hanswer, hchanged, hsame⟩ := offerWrite_admitted hw ha
    have hconfig : t.config = s.config := by
      simp only [t]
      rw [captured_frame]
      exact offerWrite_fst_config _ _ _ _
    rw [State.combination, hstore, hfaults, hconfig, hanswer]
    exact ⟨combinationView_packEntries hleave, hchanged, hsame⟩
  · rw [hstore, hfaults]
    exact offerWrite_refused hl hr
  · rw [hstore]
    exact offerWrite_other _ _ s hj
  · have hlamps := blinkPiston_refreshLamps_getElem (captureBlink w.2) p { w.1 with resolver := ρ w.1.resolver } k
    refine hlamps.trans ?_
    rw [captureBlink_start]
    dsimp only
    rw [offerWrite_fst_config, offerWrite_fst_outputs]
    rfl

theorem generalCaptureEffect_eq (tag : Tag) (p l : Byte) (s : State) : generalCaptureEffect tag p l s =
    s.captured (generalIndex l.toNat p.toNat) s.generalCaptureEntries
      (Resolver.takeGeneral (Reference.fresh tag p s.generalCaptureEntries) l) (.general p.toNat) := rfl

theorem divisionalCaptureEffect_eq (tag : Tag) (p l : Byte) (s : State) : divisionalCaptureEffect tag p l s =
    s.captured (divisionalIndex l.toNat p.toNat) s.divisionalCaptureEntries
      (Resolver.takeDivisional (Reference.fresh tag p s.divisionalCaptureEntries))
      (.divisional s.straps.division p.toNat) := rfl

theorem exec_generalCapture_of_runsAndReads {a : Address} {d p l n : Byte} (h : s.runsAndReads)
    (hp : pistonInRange .general p l = true) :
    exec (.generalCapture a d p l n) s = .next (generalCaptureEffect ⟨a, n⟩ p l s.frameTaken) := by
  rw [exec_generalCapture, execGeneralCapture, takeFrame_whenRunning _ h rfl (by simp [State.rangeFault, hp])]

theorem exec_divisionalCapture_of_runsAndReads {a : Address} {d p l n : Byte} (h : s.runsAndReads)
    (hp : pistonInRange .divisional p l = true) (hd : divisionInRange d = true) :
    exec (.divisionalCapture a d p l n) s = .next (if s.ownDivision d then
      divisionalCaptureEffect ⟨a, n⟩ p l s.frameTaken
      else blinkPiston .slow (.divisional (divisionOf d) p.toNat)
        (refreshLamps (setLampReference (divisionOf d) (some ⟨⟨a, n⟩, p.toNat, false⟩) s.frameTaken))) := by
  rw [exec_divisionalCapture, execDivisionalCapture, takeFrame_whenRunning _ h rfl (by simp [State.rangeFault, hp, hd])]
  rfl

/-- Settles O45. -/
theorem capturesStoreTheDrawnImage : Obligations.CapturesStoreTheDrawnImage := by
  refine fun a d p l n s h hw hp hl => ⟨fun hp' => ?_, fun hd hp' => ?_, fun hd hd' hp' => ?_⟩
  · have hentries := generalCaptureEntries_getElem (s := s)
    have hfollows := captured_follows (s := s.frameTaken) (entries := s.generalCaptureEntries) hw (live_of_running h.1)
      (l.toNat * 48 + (p.toNat - 1)) (fun k hk => (hentries k).trans (if_pos (.inl hk)))
      (Resolver.takeGeneral (Reference.fresh ⟨a, n⟩ p s.generalCaptureEntries) l) (.general p.toNat)
    refine ⟨_, s.generalCaptureEntries, _, ?_, hentries, rfl, captured_frame _ _ _ _ _, hfollows⟩
    rw [exec_generalCapture_of_runsAndReads h (pistonInRange_general.2 ⟨hp, hp', hl⟩), generalCaptureEffect_eq]
    rfl
  · have hentries := divisionalCaptureEntries_getElem (s := s)
    have hfollows := captured_follows (s := s.frameTaken) (entries := s.divisionalCaptureEntries) hw (live_of_running h.1)
      (6144 + l.toNat * 12 + (p.toNat - 1)) (fun k hk => (hentries k).trans (if_pos hk))
      (Resolver.takeDivisional (Reference.fresh ⟨a, n⟩ p s.divisionalCaptureEntries))
      (.divisional s.straps.division p.toNat)
    refine ⟨_, s.divisionalCaptureEntries, _, ?_, hentries, rfl, captured_frame _ _ _ _ _, hfollows⟩
    subst hd
    rw [exec_divisionalCapture_of_runsAndReads h (by simp [pistonInRange, hp, hp', hl]) (divisionInRange_own s),
      if_pos (by simp [State.ownDivision]), divisionalCaptureEffect_eq]
    rfl
  · obtain ⟨t, ht, hframe, hrefs, hlamps⟩ := lampReference_follows (s := s) hd' (some ⟨⟨a, n⟩, p.toNat, false⟩)
    have hexec := exec_divisionalCapture_of_runsAndReads (a := a) (p := p) (l := l) (n := n) h
      (by simp [pistonInRange, hp, hp', hl]) (show divisionInRange d = true by simp [divisionInRange, hd'])
    rw [if_neg (by simpa [State.ownDivision] using hd), ht] at hexec
    refine ⟨_, hexec, ?_, hrefs, fun i => ?_⟩
    · rw [blinkPiston_frame]
      exact congrArg (fun x : State => { x with outputs := { x.outputs with
        lamps := (blinkPiston .slow (.divisional (divisionOf d) p.toNat) t).outputs.lamps } }) hframe
    · have hconfig : t.config = s.config := by rw [hframe]
      have hlamp := hlamps i
      simp only [blinkPiston, Fin.getElem_fin, Vector.getElem_mapFinIdx, hconfig] at hlamp ⊢
      rw [hlamp]
      split <;> rfl

/-! ### DEVIATE -/

/-- Whether the tag of a DEVIATE matches; a tag address of 0 matches none (R88). -/
def Tag.matches (tag : Tag) (address serial : Byte) : Prop :=
  address ≠ 0#8 ∧ addressByte tag.address = address ∧ tag.serial = serial

theorem not_matches_iff {tag : Tag} {address serial : Byte} :
    ¬ tag.matches address serial ↔ address = 0#8 ∨ addressByte tag.address ≠ address ∨ tag.serial ≠ serial := by
  unfold Tag.matches
  tauto

theorem Reference.darken_of_matches {r : Reference} {address serial : Byte} (h : r.tag.matches address serial) :
    r.darken address serial = { r with dark := true } := if_pos h

theorem Reference.darken_of_not {r : Reference} {address serial : Byte} (h : ¬ r.tag.matches address serial) :
    r.darken address serial = r := if_neg h

theorem LampReference.darken_of_matches {r : LampReference} {address serial : Byte} (h : r.tag.matches address serial) :
    r.darken address serial = { r with dark := true } := if_pos h

theorem LampReference.darken_of_not {r : LampReference} {address serial : Byte} (h : ¬ r.tag.matches address serial) :
    r.darken address serial = r := if_neg h

theorem map_darken_of_not {o : Option Reference} {address serial : Byte}
    (h : ∀ r, o = some r → ¬ r.tag.matches address serial) : o.map (Reference.darken address serial) = o := by
  cases o with
  | none => rfl
  | some r => rw [Option.map_some, Reference.darken_of_not (h r rfl)]

theorem map_lampDarken_of_not {o : Option LampReference} {address serial : Byte}
    (h : ∀ r, o = some r → ¬ r.tag.matches address serial) : o.map (LampReference.darken address serial) = o := by
  cases o with
  | none => rfl
  | some r => rw [Option.map_some, LampReference.darken_of_not (h r rfl)]

/-- Lamps that show their records already stay as they are (R85). -/
theorem refreshLamps_of_lampLaw (hr : s.node = .running) (h : s.lampLaw) : refreshLamps s = s := by
  simp only [State.lampLaw, hr] at h
  have hlamps : (refreshLamps s).outputs.lamps = s.outputs.lamps := by
    refine table_ext fun i => ?_
    have hi := h i
    simp only [refreshLamps, Fin.getElem_fin, Vector.getElem_mapFinIdx] at hi ⊢
    rw [← hi]
  rw [refreshLamps_frame, hlamps]

theorem exec_deviate_of_runsAndReads {a : Address} {scope d ta n : Byte} (h : s.runsAndReads) :
    exec (.deviate a scope d ta n) s = .next (deviateEffect scope d ta n s.frameTaken) := by
  rw [exec_deviate, execDeviate, takeFrame_whenRunning _ h rfl rfl]

/-- The lamps follow a changed record, and nothing else changes (R84, R85, R88). -/
theorem refreshLamps_records (ρ : Resolver → Resolver) (s : State) :
    s.lampsFollow (refreshLamps { s.frameTaken with resolver := ρ s.resolver }) ∧
      refreshLamps { s.frameTaken with resolver := ρ s.resolver } = { s.frameTaken with
        resolver := ρ s.resolver
        outputs := { s.outputs with
          lamps := (refreshLamps { s.frameTaken with resolver := ρ s.resolver }).outputs.lamps } } :=
  ⟨lampsFollow_refreshLamps rfl rfl, refreshLamps_frame _⟩

/-- A DEVIATE with no record to darken (R88). -/
theorem deviateEffect_of_no_match {scope d ta n : Byte} (hr : s.node = .running) (h : s.lampLaw)
    (hg : scope = 0#8 → ∀ r, s.resolver.general = some r → ¬ r.tag.matches ta n)
    (hd : scope = 1#8 → d = divisionByte s.straps.division → ∀ r, s.resolver.divisional = some r → ¬ r.tag.matches ta n)
    (hl : scope = 1#8 → d ≠ divisionByte s.straps.division → ∀ k : Fin 16, d.toNat = k.val →
      ∀ r, s.resolver.lampRefs[k] = some r → ¬ r.tag.matches ta n) : deviateEffect scope d ta n s = s := by
  unfold deviateEffect
  split
  · rw [map_darken_of_not (hg ‹_›)]
    exact refreshLamps_of_lampLaw hr h
  · split
    · rename_i hscope
      obtain ⟨hscope, hrange⟩ := hscope
      split
      · rename_i hown
        rw [map_darken_of_not (hd hscope (by simpa [State.ownDivision] using hown))]
        exact refreshLamps_of_lampLaw hr h
      · rename_i hown
        have hplace : d.toNat = (Division.place (divisionOf d)).val := ((place_divisionOf hrange _).1 rfl).symm
        rw [map_lampDarken_of_not (hl hscope (by simpa [State.ownDivision] using hown) _ hplace), setLampReference_eq,
          put_self, ite_self]
        exact refreshLamps_of_lampLaw hr h
    · rfl

/-- DEVIATE darkens the record its tag matches (R88, R89). -/
theorem deviate_acts (a : Address) (scope d ta n : Byte) (h : s.runsAndReads) :
    (∀ r, scope = 0#8 → s.resolver.general = some r → r.tag.matches ta n →
      ∃ t, exec (.deviate a scope d ta n) s = .next t ∧ s.lampsFollow t ∧
        t = { s.frameTaken with
          resolver := { s.resolver with general := some { r with dark := true } }
          outputs := { s.outputs with lamps := t.outputs.lamps } }) ∧
    (∀ r, scope = 1#8 → d = divisionByte s.straps.division → s.resolver.divisional = some r → r.tag.matches ta n →
      ∃ t, exec (.deviate a scope d ta n) s = .next t ∧ s.lampsFollow t ∧
        t = { s.frameTaken with
          resolver := { s.resolver with divisional := some { r with dark := true } }
          outputs := { s.outputs with lamps := t.outputs.lamps } }) ∧
    (∀ r, ∀ k : Fin 16, scope = 1#8 → d.toNat = k.val → d ≠ divisionByte s.straps.division →
      s.keepsLampReference (divisionOf d) = true → s.resolver.lampRefs[k] = some r → r.tag.matches ta n →
      ∃ t, exec (.deviate a scope d ta n) s = .next t ∧ s.lampsFollow t ∧
        t = { s.frameTaken with
          resolver := { s.resolver with lampRefs := put s.resolver.lampRefs k (some { r with dark := true }) }
          outputs := { s.outputs with lamps := t.outputs.lamps } }) := by
  rw [exec_deviate_of_runsAndReads h]
  refine ⟨fun r hscope hr hm => ?_, fun r hscope hd hr hm => ?_, fun r k hscope hk hd hkeep hr hm => ?_⟩
  · refine ⟨_, ?_, refreshLamps_records (fun v => { v with general := some { r with dark := true } }) s⟩
    rw [deviateEffect, if_pos hscope]
    dsimp only
    rw [hr, Option.map_some, Reference.darken_of_matches hm]
  · refine ⟨_, ?_, refreshLamps_records (fun v => { v with divisional := some { r with dark := true } }) s⟩
    have hrange : d.toNat ≤ 15 := by
      rw [hd]
      exact of_decide_eq_true (divisionInRange_own s)
    rw [deviateEffect, if_neg (by rw [hscope]; decide), if_pos ⟨hscope, hrange⟩, if_pos (by simp [State.ownDivision, hd])]
    dsimp only
    rw [hr, Option.map_some, Reference.darken_of_matches hm]
  · have hrange : d.toNat ≤ 15 := by omega
    obtain rfl : Division.place (divisionOf d) = k := (place_divisionOf hrange k).2 hk.symm
    refine ⟨_, ?_, refreshLamps_records
      (fun v => { v with lampRefs := put v.lampRefs (Division.place (divisionOf d)) (some { r with dark := true }) }) s⟩
    have hkeep' : s.frameTaken.keepsLampReference (divisionOf d) = true := hkeep
    rw [deviateEffect, if_neg (by rw [hscope]; decide), if_pos ⟨hscope, hrange⟩,
      if_neg (by simpa [State.ownDivision] using hd), setLampReference, if_pos hkeep']
    dsimp only
    rw [hr, Option.map_some, LampReference.darken_of_matches hm]

/-! ### LEVEL and LOCK -/

theorem exec_level_of_runsAndReads {a : Address} {l : Byte} (h : s.runsAndReads) : exec (.level a l) s = .next
    { s.frameTaken with resolver := { s.resolver with level := if 127 < l.toNat then 127 else l.toNat } } := by
  rw [exec_level, execLevel, takeFrame_whenRunning _ h rfl rfl, clampLevel_eq]

theorem exec_lock_of_readsFrame {a : Address} {l k : Byte} (h : s.readsFrame) : exec (.lock a l k) s = .next
    { s.frameTaken with store := { s.store with
        locks := s.store.locks.setIfInBounds (clampLevel l) (k != 0#8) } } := by
  rw [exec_lock, execLock, takeFrame_of_readsFrame h rfl]

/-- Settles O46. -/
theorem deviateLevelAndLockActOnTheirRecord : Obligations.DeviateLevelAndLockActOnTheirRecord := by
  refine ⟨fun a scope d ta n s h hlamp => ?_, fun a l k s => ⟨exec_level_of_runsAndReads, fun h => ?_⟩⟩
  · obtain ⟨hgeneral, hdivisional, hother⟩ := deviate_acts a scope d ta n h
    refine ⟨fun r hs hr ha hb hc => hgeneral r hs hr ⟨ha, hb, hc⟩,
      fun r hs hd hr ha hb hc => hdivisional r hs hd hr ⟨ha, hb, hc⟩,
      fun r k hs hk hd hkeep hr ha hb hc => hother r k hs hk hd hkeep hr ⟨ha, hb, hc⟩, fun hg hd hl => ?_⟩
    simp only [← not_matches_iff] at hg hd hl
    rw [exec_deviate_of_runsAndReads h, deviateEffect_of_no_match (s := s.frameTaken) h.1 hlamp hg hd hl]
  · refine ⟨_, exec_lock_of_readsFrame h, rfl, fun i => ?_⟩
    rw [← clampLevel_eq]
    simp only [Fin.getElem_fin, Vector.getElem_setIfInBounds, bne, beq_eq_decide, decide_not, eq_comm]

end

end Sys2Proof.Machine
end

section
/-! PROOF. SHOE frames: the crescendo they set, and what a shoe host does beyond that (O47). -/

namespace Sys2Proof.Machine

section
variable {s t u : State} {p k : Nat}

/-! ### What a SHOE sets at every node -/

theorem stageView_getElem (stops : Nat) (bytes : EntryBytes) (n : StopNo) :
    (stageView stops bytes)[n] = (decide (n.val < stops) && entryCode bytes n == 1#2) := getElem_table_fin _ n

theorem stageView_allLeave (stops : Nat) : stageView stops allLeave = StopSet.empty := by
  refine table_ext fun n => ?_
  have hcode : entryCode allLeave n = 0#2 := by simp [entryCode, allLeave]
  rw [stageView_getElem, getElem_empty, hcode]
  simp

/-- The resolver of a SHOE before its record is read (R131). -/
def Resolver.staged (program stage : Nat) (v : Resolver) : Resolver :=
  { v with program := program, stage := stage, crescendoLamp := decide (0 < stage) }

theorem applyStage_of_stage (p : Nat) (hk : k ≠ 0) (s : State) : applyStage p k s =
    loadStage p k (readRecord (stageIndex p k) { s with resolver := s.resolver.staged p k }) := if_neg hk

/-- A SHOE reports nothing but a damaged stage record (R38, R131). -/
theorem applyStage_reports_of_sound (h : k = 0 ∨ s.store.readDamaged (stageIndex p k) = false) :
    (applyStage p k s).link = s.link ∧ (applyStage p k s).faults = s.faults := by
  by_cases hk : k = 0
  · simp only [applyStage, hk, if_true, and_self]
  · have hsound : s.store.readDamaged (stageIndex p k) = false := h.resolve_left hk
    have hread : readRecord (stageIndex p k) { s with resolver := s.resolver.staged p k } =
        { s with resolver := s.resolver.staged p k } := readRecord_of_sound hsound
    rw [applyStage_of_stage p hk, loadStage_link, loadStage_faults, hread]
    exact ⟨rfl, rfl⟩

theorem applyStage_damaged (hl : s.live = true) (hk : 0 < k) (h : s.store.readDamaged (stageIndex p k) = true) :
    (applyStage p k s).faults.has .damaged = true := by
  have hread : readRecord (stageIndex p k) { s with resolver := s.resolver.staged p k } =
      setFlag .damaged { s with resolver := s.resolver.staged p k } := readRecord_of_damaged h
  rw [applyStage_of_stage p (by omega), loadStage_faults, hread]
  exact has_setFlag hl

theorem feedSilence_faults (s : State) : (feedSilence s).faults =
    if s.resolver.silence = .silent then s.faults.withoutFlag .shoeSilent else s.faults := by
  unfold feedSilence
  dsimp only
  split <;> rfl

/-- What a SHOE makes of any node (R131). -/
def State.shoeTaken (p k : Nat) (s : State) : State := refreshSpeaking (feedSilence (applyStage p k s))

theorem shoeTaken_resolver (p k : Nat) (s : State) : (s.shoeTaken p k).resolver = { s.resolver with
    program := p
    stage := k
    addition := if k = 0 then StopSet.empty else stageView s.config.stops (s.store.answer (stageIndex p k))
    crescendoLamp := decide (0 < k)
    silence := .fed 5 500
    speaking := (s.shoeTaken p k).resolver.speaking } := by
  unfold State.shoeTaken
  generalize hx : (refreshSpeaking (feedSilence (applyStage p k s))).resolver.speaking = x
  rw [refreshSpeaking_resolver] at hx ⊢
  dsimp only at hx
  rw [hx, feedSilence_resolver, applyStage_resolver]

theorem shoeTaken_resolver_frame (p k : Nat) (s : State) : (s.shoeTaken p k).resolver = { s.resolver with
    program := p
    stage := k
    addition := (s.shoeTaken p k).resolver.addition
    crescendoLamp := decide (0 < k)
    silence := .fed 5 500
    speaking := (s.shoeTaken p k).resolver.speaking } := by
  have h := shoeTaken_resolver p k s
  generalize (s.shoeTaken p k).resolver = r at h ⊢
  generalize (if k = 0 then StopSet.empty else stageView s.config.stops (s.store.answer (stageIndex p k))) = x at h
  have hadds : r.addition = x := by rw [h]
  rw [hadds]
  exact h

theorem shoeTaken_speaks (p k : Nat) (s : State) :
    (s.shoeTaken p k).resolver.speaking = (s.shoeTaken p k).resolver.speaks s.config.stops := by
  have h : (s.shoeTaken p k).resolver = (feedSilence (applyStage p k s)).resolver.respoken s.config.stops := by
    rw [State.shoeTaken, refreshSpeaking_resolver, feedSilence_config, applyStage_config]
    rfl
  rw [h, respoken_speaking]

theorem shoeTaken_reports (p k : Nat) (s : State) : (s.shoeTaken p k).link = (applyStage p k s).link ∧
    (s.shoeTaken p k).faults = if s.resolver.silence = .silent then (applyStage p k s).faults.withoutFlag .shoeSilent
      else (applyStage p k s).faults := by
  rw [State.shoeTaken, refreshSpeaking_link, refreshSpeaking_faults, feedSilence_link, feedSilence_faults,
    applyStage_resolver]
  exact ⟨rfl, rfl⟩

theorem shoeTaken_frame (p k : Nat) (s : State) : s.shoeTaken p k = { s with
    resolver := (s.shoeTaken p k).resolver
    link := (s.shoeTaken p k).link
    outputs := (s.shoeTaken p k).outputs
    faults := (s.shoeTaken p k).faults } := by
  obtain ⟨r, o, e⟩ : ∃ r o, s.shoeTaken p k =
      { feedSilence (applyStage p k s) with resolver := r, outputs := o } := by
    unfold State.shoeTaken
    exact ⟨_, _, refreshSpeaking_frame _⟩
  obtain ⟨r', f, e'⟩ : ∃ r f, feedSilence (applyStage p k s) = { applyStage p k s with resolver := r, faults := f } :=
    ⟨_, _, feedSilence_frame _⟩
  obtain ⟨r'', l, f', e''⟩ : ∃ r l f, applyStage p k s = { s with resolver := r, link := l, faults := f } :=
    ⟨_, _, _, applyStage_frame _ _ _⟩
  rw [e, e', e'']

theorem shiftFollows_shoeTaken (hl : s.live = true) : s.shiftFollows (s.shoeTaken p k) := by
  unfold State.shoeTaken
  refine shiftFollows_refreshSpeaking ?_ ?_ ?_
  · rwa [live_congr ((feedSilence_node _).trans (applyStage_node p k s))]
  · rw [feedSilence_outputs, applyStage_outputs]
  · rw [feedSilence_resolver, applyStage_resolver]

theorem shoeTaken_lamps (p k : Nat) (s : State) : (s.shoeTaken p k).outputs.lamps = s.outputs.lamps := by
  rw [State.shoeTaken, refreshSpeaking_lamps, feedSilence_outputs, applyStage_outputs]

/-! ### What a shoe host does with it -/

theorem hostTakesShoe_of_guest (a : Address) (h : u.isHost = false) : hostTakesShoe a p k u = u := by
  simp [hostTakesShoe, h]

theorem hostTakesShoe_of_other {a : Address} (h : u.isHost = true) (ha : a ≠ u.straps.address) :
    hostTakesShoe a p k u = setFlag .secondShoe u := by
  simp [hostTakesShoe, h, ha]

theorem activeShoe_of_running (h : u.node = .running) (ha : u.shoe.unit = .active) : u.activeShoe = u.config.shoe := by
  simp [State.activeShoe, State.runs, h, ha]

theorem activeShoe_of_inactive (h : u.shoe.unit ≠ .active ∨ u.config.shoe = none) : u.activeShoe = none := by
  rcases h with h | h <;> simp [State.activeShoe, h]

theorem hostTakesShoe_of_inactive (a : Address) (h : u.isHost = true) (ha : a = u.straps.address)
    (hi : u.shoe.unit ≠ .active ∨ u.config.shoe = none) : hostTakesShoe a p k u = u := by
  simp [hostTakesShoe, h, ha, activeShoe_of_inactive hi]

theorem hostTakesShoe_of_active {a : Address} (h : u.isHost = true) (ha : a = u.straps.address)
    (hr : u.node = .running) (hu : u.shoe.unit = .active) (hc : u.config.shoe ≠ none) :
    hostTakesShoe a p k u =
      if p = u.shoe.program ∧ k = u.shoe.displayed then { u with shoe := { u.shoe with refresh := some 500 } }
      else offerShoe { u with shoe := { u.shoe with refresh := some 500 } } := by
  have hsome : u.activeShoe.isSome = true := by
    rw [activeShoe_of_running hr hu]
    exact Option.isSome_iff_ne_none.2 hc
  simp [hostTakesShoe, h, ha, hsome]

/-! ### The statement on SHOE -/

theorem exec_shoe_of_runsAndReads {a : Address} {program stage : Byte} (h : s.runsAndReads) :
    exec (.shoe a program stage) s = .next (hostTakesShoe a (clampProgram program) (clampStage stage)
      (s.frameTaken.shoeTaken (clampProgram program) (clampStage stage))) := by
  rw [exec_shoe, execShoe, takeFrame_whenRunning _ h rfl rfl]
  rfl

theorem clampProgram_eq (program : Byte) : clampProgram program = if 3 < program.toNat then 3 else program.toNat := by
  unfold clampProgram
  split <;> omega

theorem clampStage_eq (stage : Byte) : clampStage stage = if 31 < stage.toNat then 31 else stage.toNat := by
  unfold clampStage
  split <;> omega

/-- The addition set after a SHOE (R131). -/
theorem shoeTaken_addition (p k : Nat) (s : State) :
    (∀ n : StopNo, (s.shoeTaken p k).resolver.addition[n] =
      (decide (0 < k) && decide (n.val < s.config.stops) && entryCode (s.store.answer (stageIndex p k)) n == 1#2)) ∧
    (k = 0 → (s.shoeTaken p k).resolver.addition = StopSet.empty) ∧
    (s.store.readDamaged (stageIndex p k) = true → (s.shoeTaken p k).resolver.addition = StopSet.empty) := by
  rw [shoeTaken_resolver]
  dsimp only
  by_cases hk : k = 0
  · simp only [if_pos hk, getElem_empty]
    refine ⟨fun n => ?_, fun _ => trivial, fun _ => trivial⟩
    rw [decide_eq_false (by omega), Bool.false_and, Bool.false_and]
  · simp only [if_neg hk]
    refine ⟨fun n => ?_, fun h => absurd h hk, fun hd => ?_⟩
    · rw [stageView_getElem, decide_eq_true (by omega : 0 < k), Bool.true_and]
    · rw [Store.answer_of_readDamaged hd, stageView_allLeave]

/-- Settles O47. -/
theorem shoeFramesSetTheCrescendo : Obligations.ShoeFramesSetTheCrescendo := by
  intro a program stage s h
  refine ⟨s.frameTaken.shoeTaken (clampProgram program) (clampStage stage), clampProgram program, clampStage stage,
    exec_shoe_of_runsAndReads h, clampProgram_eq program, clampStage_eq stage, ?_⟩
  generalize clampProgram program = p
  generalize clampStage stage = k
  have hl := live_of_running h.1
  obtain ⟨hlink, hfaults⟩ := shoeTaken_reports p k s.frameTaken
  obtain ⟨hadds, hzero, hleaves⟩ := shoeTaken_addition p k s.frameTaken
  have hframe := shoeTaken_frame p k s.frameTaken
  have hresolver := shoeTaken_resolver_frame p k s.frameTaken
  have hspeaks := shoeTaken_speaks p k s.frameTaken
  have hshift : s.frameTaken.shiftFollows (s.frameTaken.shoeTaken p k) := shiftFollows_shoeTaken hl
  have hlamps := shoeTaken_lamps p k s.frameTaken
  generalize s.frameTaken.shoeTaken p k = u at *
  have hnode : u.node = .running := by rw [hframe]; exact h.1
  have hstraps : u.straps = s.straps := by rw [hframe]
  have hconfig : u.config = s.config := by rw [hframe]
  have hshoe : u.shoe = s.shoe := by rw [hframe]
  refine ⟨?_, hadds, fun hs => ?_, hzero, fun hk hd => ⟨?_, hleaves hd⟩, fun hk => ?_, hshift, hlamps, fun hg => ?_,
    fun hg ha => ⟨?_, has_setFlag (live_of_running hnode)⟩, fun hg ha hi => ?_, fun hg ha hu hc => ?_⟩
  · rw [← hspeaks]
    conv_lhs => rw [hframe, hresolver]
  · rw [hfaults, if_pos hs]
    simp
  · have hset := applyStage_damaged (s := s.frameTaken) (p := p) hl hk hd
    rw [hfaults]
    split
    · exact (Faults.has_withoutFlag _ .shoeSilent .damaged).trans (by simp [hset])
    · exact hset
  · obtain ⟨hsame, hsame'⟩ := applyStage_reports_of_sound (s := s.frameTaken) (p := p) hk
    rw [hlink, hfaults, hsame, hsame']
    exact ⟨rfl, fun hs => if_neg hs⟩
  · exact hostTakesShoe_of_guest a (by rwa [State.isHost, hstraps])
  · exact hostTakesShoe_of_other (by rwa [State.isHost, hstraps]) (by rwa [hstraps])
  · exact hostTakesShoe_of_inactive a (by rwa [State.isHost, hstraps]) (by rwa [hstraps]) (by rwa [hshoe, hconfig])
  · have hactive := hostTakesShoe_of_active (p := p) (k := k) (a := a) (u := u) (by rwa [State.isHost, hstraps])
      (by rwa [hstraps]) hnode (by rwa [hshoe]) (by rwa [hconfig])
    rw [hshoe] at hactive
    refine ⟨fun hp hk => hactive.trans (if_pos ⟨hp, hk⟩), fun hne => hactive.trans ((if_neg ?_).trans ?_)⟩
    · rintro ⟨hp, hk⟩
      exact hne.elim (· hp) (· hk)
    · rw [offerShoe, hstraps]

end

end Sys2Proof.Machine
end

section
/-! PROOF. Service access: the frames that set its registers, write records and the block, and clear faults (O50, O51,
O52). -/

namespace Sys2Proof.Machine

section
variable {s t u : State}

/-! ### A service frame at its target -/

theorem forTarget_of_readsFrame {c : Instr} {target : Byte} {act : State → State} (h : s.readsFrame)
    (hw : c.wellFormed = true) : forTarget c target act s =
      .next (if s.isTarget target then act s.frameTaken else s.frameTaken) := by
  rw [forTarget, takeFrame_of_readsFrame h hw]
  rfl

theorem forTarget_of_other {c : Instr} {target : Byte} {act : State → State} (h : s.readsFrame)
    (hw : c.wellFormed = true) (ht : s.isTarget target = false) : forTarget c target act s = .next s.frameTaken := by
  rw [forTarget_of_readsFrame h hw, if_neg (by simp [ht])]

theorem forTarget_of_target {c : Instr} {target : Byte} {act : State → State} (h : s.readsFrame)
    (hw : c.wellFormed = true) (ht : s.isTarget target = true) :
    forTarget c target act s = .next (act s.frameTaken) := by
  rw [forTarget_of_readsFrame h hw, if_pos ht]

theorem obeysService_of (hl : s.live = true) (h : s.node = .handOnly ∨ s.service.mode = true) : s.obeysService = true := by
  rcases h with h | h
  · simp [State.obeysService, h]
  · cases hn : s.node <;> simp_all [State.live, State.obeysService, State.runs]

theorem obeysService_of_off (hr : s.node = .running) (h : s.service.mode = false) : s.obeysService = false := by
  simp [State.obeysService, State.runs, hr, h]

/-- What a node does that obeys the frame (R204). -/
theorem whenObeyed_of_obeyed {act : State → State} (h : s.readsFrame) (ho : s.node = .handOnly ∨ s.service.mode = true) :
    whenObeyed act s.frameTaken = act s.frameTaken := if_pos (obeysService_of (s := s.frameTaken) h.1 ho)

/-- A frame of service access that the node does not obey, for another node or with service mode off (R180, R204). -/
theorem forTarget_of_not_obeyed {c : Instr} {target : Byte} {act : State → State} (h : s.readsFrame)
    (hw : c.wellFormed = true) (hn : s.isTarget target = false ∨ (s.node = .running ∧ s.service.mode = false)) :
    forTarget c target (whenObeyed act) s = .next s.frameTaken := by
  rw [forTarget_of_readsFrame h hw]
  rcases hn with ht | ⟨hr, hm⟩
  · rw [if_neg (by simp [ht])]
  · have hoff : whenObeyed act s.frameTaken = s.frameTaken :=
      if_neg (by rw [obeysService_of_off (s := s.frameTaken) hr hm]; nofun)
    rw [hoff, ite_self]

theorem forTarget_of_obeyed {c : Instr} {target : Byte} {act : State → State} (h : s.readsFrame)
    (hw : c.wellFormed = true) (ht : s.isTarget target = true) (ho : s.node = .handOnly ∨ s.service.mode = true) :
    forTarget c target (whenObeyed act) s = .next (act s.frameTaken) := by
  rw [forTarget_of_target h hw ht, whenObeyed_of_obeyed h ho]

/-! ### The frames that set registers -/

theorem clampIndex_eq (high low : Byte) : clampIndex high low = min (high.toNat * 256 + low.toNat) 7935 := rfl

theorem clampCount_eq (count : Byte) :
    clampCount count = if count.toNat = 0 then 1 else if 16 < count.toNat then 16 else count.toNat := by
  unfold clampCount
  split
  · omega
  · split <;> omega

theorem captureInProgress_iff {st : Store} {i : Nat} : st.captureInProgress = some i ↔
    st.stage ≠ none ∧ st.writes.head?.map (fun e => (e.index, e.source)) = some (i, .capture) := by
  unfold Store.captureInProgress
  cases st.stage <;> cases st.writes <;> simp [and_comm]

theorem serviceModeOff_obeyed {a : Address} {target option : Byte} (h : s.readsFrame) :
    exec (.serviceModeOff a target option) s = .next (if s.isTarget target && (s.runs && s.service.mode) then
      { s.frameTaken with service := s.service.ended } else s.frameTaken) := by
  rw [exec_serviceModeOff, execServiceModeOff, forTarget_of_readsFrame h rfl]
  cases s.isTarget target
  · rfl
  · rfl

/-- The store pointers, STORE_READ and CHANGED_SCAN where the node does not obey them (R204). -/
theorem registers_not_obeyed {a : Address} {target x hi lo : Byte} (h : s.readsFrame)
    (hn : s.isTarget target = false ∨ (s.node = .running ∧ s.service.mode = false)) :
    (x ≠ 0#8 → exec (.storePointWrite a target x hi lo) s = .next s.frameTaken) ∧
      exec (.storePointRead a target hi lo) s = .next s.frameTaken ∧
      exec (.storeRead a target x) s = .next s.frameTaken ∧
      exec (.changedScan a target hi lo) s = .next s.frameTaken := by
  refine ⟨fun hx => ?_, ?_, ?_, ?_⟩
  · rw [exec_storePointWrite, execStorePointWrite, forTarget_of_not_obeyed h (by simpa using hx) hn]
  · rw [exec_storePointRead, execStorePointRead, forTarget_of_not_obeyed h rfl hn]
  · rw [exec_storeRead, execStoreRead, forTarget_of_not_obeyed h rfl hn]
  · rw [exec_changedScan, execChangedScan, forTarget_of_not_obeyed h rfl hn]

theorem serviceModeOn_of_target {a : Address} {target x option : Byte} (h : s.readsFrame) (ht : s.isTarget target = true)
    (hx : x ≠ 0#8) : exec (.serviceModeOn a target x option) s = .next (clearOption option { s.frameTaken with
      service := { s.service with mode := decide (s.node = .running) || s.service.mode } }) := by
  rw [exec_serviceModeOn, execServiceModeOn, forTarget_of_target h (by simpa using hx) ht]
  have hruns : s.frameTaken.runs = decide (s.node = .running) := rfl
  rw [hruns]
  by_cases hr : s.node = .running
  · rw [decide_eq_true hr, if_pos rfl, Bool.true_or]
  · rw [decide_eq_false hr, if_neg (by simp), Bool.false_or]

/-- SERVICE_MODE_ON clears the changed flags of the array where its option asks for it (R36, R203). -/
theorem clearOption_follows (option : Byte) (hm : s.memoryLaw) :
    clearOption option s = { s with store := { s.store with array := (clearOption option s).store.array } } ∧
      (option = 0#8 → (clearOption option s).store = s.store) ∧
      (option ≠ 0#8 → ∀ i, (clearOption option s).store.array.read i =
        if s.store.stage ≠ none ∧ s.store.writes.head?.map (fun e => (e.index, e.source)) = some (i, .capture) then
          s.store.array.read i
        else { s.store.array.read i with changed := false }) := by
  by_cases ho : option = 0#8
  · have hsame : clearOption option s = s := if_pos ho
    rw [hsame]
    exact ⟨rfl, fun _ => rfl, fun h => absurd ho h⟩
  · have hclear : clearOption option s = { s with store := s.store.clearChanged } := if_neg ho
    rw [hclear]
    refine ⟨rfl, fun h => absurd h ho, fun _ i => ?_⟩
    rw [Store.read_clearChanged i hm]
    simp only [captureInProgress_iff]

/-- Settles O50. -/
theorem serviceFramesSetServiceAccess : Obligations.ServiceFramesSetServiceAccess := by
  intro a target x hi lo option s h
  refine ⟨fun ht => ?_, fun hr hm => ?_, fun ht hh => ?_, fun ht hr hm => ?_, fun ht hx hm => ?_, fun ht ho => ?_⟩
  · obtain ⟨hwrite, hread, hstore, hscan⟩ := registers_not_obeyed (a := a) (x := x) (hi := hi) (lo := lo) h (.inl ht)
    refine ⟨?_, fun hx => ⟨?_, hwrite hx⟩, hread, hstore, hscan⟩
    · rw [serviceModeOff_obeyed h, ht]
      rfl
    · rw [exec_serviceModeOn, execServiceModeOn, forTarget_of_other h (by simpa using hx) ht]
  · obtain ⟨hwrite, hread, hstore, hscan⟩ :=
      registers_not_obeyed (a := a) (x := x) (target := target) (hi := hi) (lo := lo) h (.inr ⟨hr, hm⟩)
    refine ⟨?_, hwrite, hread, hstore, hscan⟩
    rw [serviceModeOff_obeyed h, hm]
    simp
  · rw [serviceModeOff_obeyed h]
    simp [State.runs, hh]
  · rw [serviceModeOff_obeyed h]
    simp only [ht, runs_of_running hr, hm, Bool.and_self, if_true]
    rfl
  · obtain ⟨hframe, hsame, hclear⟩ := clearOption_follows option (s := { s.frameTaken with
      service := { s.service with mode := decide (s.node = .running) || s.service.mode } }) hm
    exact ⟨_, serviceModeOn_of_target h ht hx, hframe, hsame, hclear⟩
  · refine ⟨?_, fun hx => ?_, ?_, ?_⟩
    · rw [exec_storePointRead, execStorePointRead, forTarget_of_obeyed h rfl ht ho, clampIndex_eq]
    · rw [exec_storePointWrite, execStorePointWrite, forTarget_of_obeyed h (by simpa using hx) ht ho, clampIndex_eq]
    · rw [exec_storeRead, execStoreRead, forTarget_of_obeyed h rfl ht ho, clampCount_eq]
      cases hcopy : s.service.readCopy <;> simp [hcopy]
    · rw [exec_changedScan, execChangedScan, forTarget_of_obeyed h rfl ht ho, clampIndex_eq]

/-! ### The block -/

theorem writeBlock_getElem (b : Vector Byte 128) (offset : Nat) (data : List Byte) (k : Fin 128) :
    (writeBlock b offset data)[k] =
      if offset ≤ k.val ∧ k.val < offset + data.length then data.getD (k.val - offset) 0#8 else b[k] := getElem_table_fin _ k

theorem configWrite_inRange {a : Address} {target offset : Byte} {data : List Byte}
    (hdata : offset.toNat + data.length ≤ 128) :
    (fun t : State =>
      if t.rangeFault (.configWrite a target offset data) then setFlag .unknownKind t
      else whenObeyed (fun u =>
        { u with
          block := writeBlock u.block offset.toNat data
          blockWrite := some (offset.toNat, data.length) }) t) =
      whenObeyed fun u =>
        { u with
          block := writeBlock u.block offset.toNat data
          blockWrite := some (offset.toNat, data.length) } := by
  funext t
  have hfit : t.rangeFault (.configWrite a target offset data) = false := by
    simp only [State.rangeFault, decide_eq_false (by omega : ¬ 128 < offset.toNat + data.length), Bool.and_false]
  rw [hfit, if_neg (by simp)]

/-! ### A clear request -/

theorem holdsNote_mergeNote (q : List QueueEntry) : holdsNote (mergeNote q) = holdsNote q := by
  unfold holdsNote mergeNote
  rw [List.any_map]
  congr 1
  funext e
  simp only [Function.comp]
  split <;> rfl

theorem holdsNote_of_mem {e : QueueEntry} {q : List QueueEntry} (he : e ∈ q) (hn : e.body.isNote = true) :
    holdsNote q = true := List.any_eq_true.2 ⟨e, he, hn⟩

theorem clearMask_getLsbD (hi lo : Byte) (f : Flag) :
    (clearMask hi lo).getLsbD f.bit.val = (hi ++ lo).getLsbD f.bit.val := by
  have hbit : f.bit.val < 10 := f.bit.isLt
  rw [clearMask, BitVec.getLsbD_append, BitVec.getLsbD_append]
  by_cases hlow : f.bit.val < 8
  · rw [if_pos hlow, if_pos hlow]
  · rw [if_neg hlow, if_neg hlow, BitVec.getLsbD_extractLsb']
    simp only [Nat.zero_add, decide_eq_true (by omega : f.bit.val - 8 < 2), Bool.true_and]

/-- The fault set whose flags a clear request leaves, before its call (R196). -/
def State.cleared (mask : BitVec 10) (s : State) : State :=
  { s with faults := { s.faults with flags := (s.faults.flags &&& ~~~mask) ||| s.lastingFlags } }

theorem clearRequest_eq (mask : BitVec 10) (s : State) : clearRequest mask s = noteCall (s.cleared mask) := rfl

/-- A flag after a clear request, before its call (R196). -/
theorem cleared_has (mask : BitVec 10) (s : State) (f : Flag) : (s.cleared mask).faults.has f = true ↔
    (s.faults.has f = true ∧ mask.getLsbD f.bit.val = false) ∨
      (f = .stuck ∧ 0 < s.faults.stuckCount) ∨ (f = .shoeSilent ∧ s.resolver.silence = .silent) ∨
        (f = .config ∧ (s.node = .handOnly ∨ s.shoe.unit = .off)) := by
  have hflags : (s.cleared mask).faults.has f = _ := clearRequest_flags mask s f
  rw [hflags]
  cases f <;> simp [Flag.follows, State.causeLasts]

theorem noteCall_cause_count (s : State) :
    (noteCall s).faults.cause = s.faults.cause ∧ (noteCall s).faults.stuckCount = s.faults.stuckCount := by
  rcases noteCall_faults s with e | ⟨p, e⟩ | e <;> rw [e] <;> exact ⟨rfl, rfl⟩

/-- A call that finds a FAULT-NOTE in the queue, or a free place (R184, R199). -/
theorem noteCall_admitted (hline : s.link.line ≠ .idle) (h : s.faults.notePending = false)
    (hq : holdsNote s.link.queue = true ∨ hasPlace s.link.queue = true) :
    holdsNote (noteCall s).link.queue = true ∧ (noteCall s).faults = (setNotePending false s).faults := by
  cases hn : holdsNote s.link.queue
  · rw [noteCall_of_place h hn (by simpa [hn] using hq), joinQueue_of_line (s := setNotePending false s) hline]
    refine ⟨holdsNote_of_mem ((insertEntry_perm _ _).mem_iff.2 List.mem_cons_self) rfl, rfl⟩
  · rw [noteCall_of_held h hn]
    exact ⟨(holdsNote_mergeNote _).trans hn, rfl⟩

/-- A call that finds no place leaves the link and owes the FAULT-NOTE (R199, R201). -/
theorem noteCall_refused (h : s.faults.notePending = false) (hn : holdsNote s.link.queue = false)
    (hp : hasPlace s.link.queue = false) :
    (noteCall s).link = s.link ∧ (noteCall s).faults.notePending = true ∧ (noteCall s).faults.has .txOverflow = true := by
  rw [noteCall_of_full h hn hp]
  split
  · exact ⟨rfl, rfl, ‹_›⟩
  · exact ⟨rfl, rfl, has_raiseFlag _ _⟩

/-- Settles O52. -/
theorem configWriteAndFaultClear : Obligations.ConfigWriteAndFaultClear := by
  intro a target offset hi lo data s h
  refine ⟨fun h1 h6 hfit => ⟨fun hn => ?_, fun ht ho => ?_⟩, fun ht => ?_, fun ht => ?_⟩
  · rw [exec_configWrite, execConfigWrite, configWrite_inRange hfit, forTarget_of_not_obeyed h (by simp [h1, h6]) hn]
  · have hexec : exec (.configWrite a target offset data) s = .next { s.frameTaken with
        block := writeBlock s.block offset.toNat data, blockWrite := some (offset.toNat, data.length) } := by
      rw [exec_configWrite, execConfigWrite, configWrite_inRange hfit, forTarget_of_obeyed h (by simp [h1, h6]) ht ho]
    refine ⟨_, hexec, rfl, fun k => ⟨fun j b hb hk => ?_, fun hk => ?_⟩⟩
    · obtain ⟨hj, hb⟩ := List.getElem?_eq_some_iff.1 hb
      refine (writeBlock_getElem _ _ _ k).trans ((if_pos (by omega)).trans ?_)
      have hsub : k.val - offset.toNat = j := by omega
      rw [hsub, List.getD_eq_getElem _ _ hj, hb]
    · exact (writeBlock_getElem _ _ _ k).trans (if_neg (by omega))
  · rw [exec_faultClear, execFaultClear, forTarget_of_other h rfl ht]
  · refine ⟨noteCall (s.frameTaken.cleared (clearMask hi lo)), ?_, ?_⟩
    · rw [exec_faultClear, execFaultClear, forTarget_of_target h rfl ht, clearRequest_eq]
    · have hhas := cleared_has (clearMask hi lo) s.frameTaken
      have hframe : clearRequest (clearMask hi lo) s.frameTaken = _ := clearRequest_frame (clearMask hi lo) s.frameTaken
      rw [clearRequest_eq] at hframe
      obtain ⟨hcause, hcount⟩ := noteCall_cause_count (s.frameTaken.cleared (clearMask hi lo))
      obtain ⟨hline, hsending⟩ := noteCall_line (s := s.frameTaken.cleared (clearMask hi lo)) nofun
      refine ⟨hframe, hcause, hcount, hline, hsending.trans h.2.1, fun f hf => ?_, fun hp => ?_, fun hp hq => ?_,
        fun hp hn hfull => ?_⟩
      · rw [noteCall_has hf, hhas, clearMask_getLsbD]
      · rw [noteCall_of_pending (s := s.frameTaken.cleared (clearMask hi lo)) hp]
        exact ⟨rfl, rfl⟩
      · obtain ⟨hholds, hfaults⟩ := noteCall_admitted (s := s.frameTaken.cleared (clearMask hi lo)) nofun hp
          (hq.imp_right hasPlace_iff.2)
        rw [hfaults]
        refine ⟨hholds, rfl, rfl, (hhas .txOverflow).trans ?_⟩
        rw [clearMask_getLsbD]
        simp only [reduceCtorEq, false_and, or_false]
        exact Iff.rfl
      · exact noteCall_refused (s := s.frameTaken.cleared (clearMask hi lo)) hp hn
          (Bool.eq_false_iff.2 fun hp => absurd (hasPlace_iff.1 hp) (Nat.not_lt.2 hfull))

/-! ### STORE-WRITE -/

theorem exec_storeWrite_of_obeyed {a : Address} {target : Byte} {data : List Byte} (h : s.readsFrame)
    (hd : data.length ≤ 7) (ht : s.isTarget target = true) (ho : s.node = .handOnly ∨ s.service.mode = true) :
    exec (.storeWrite a target data) s = .next (takePart data s.frameTaken) := by
  rw [exec_storeWrite, execStoreWrite, forTarget_of_obeyed h (by simpa using hd) ht ho]

theorem partLength_eq {p : Nat} (h : p ≤ 2) : partLength p = if p = 2 then 4 else 6 := by
  have hp : p = 0 ∨ p = 1 ∨ p = 2 := by omega
  rcases hp with rfl | rfl | rfl <;> rfl

theorem bytesOfParts_getElem? {data : List Byte} (h : data.length = 16) (k : Fin 16) :
    data[k.val]? = some (bytesOfParts data)[k] := by
  have hk : k.val < data.length := by omega
  rw [bytesOfParts, getElem_table_fin, List.getElem?_eq_getElem hk, List.getD_eq_getElem _ _ hk]

/-- The state of a completed record before the reload (R210). -/
def State.recordOffered (data : List Byte) (s : State) : State :=
  { (offerWrite s.service.writePointer.index (bytesOfParts data) .service s).1 with
    service := { s.service with writePointer := ⟨nextIndex s.service.writePointer.index, 0⟩, received := [] } }

theorem recordComplete_eq (data : List Byte) (s : State) : recordComplete data s =
    if (offerWrite s.service.writePointer.index (bytesOfParts data) .service s).2 then
      reloadSets s.service.writePointer.index (s.recordOffered data) else s.recordOffered data := by
  have hservice := offerWrite_fst_service s.service.writePointer.index (bytesOfParts data) .service s
  unfold recordComplete State.recordOffered
  dsimp only
  rw [hservice]

/-- A reload reads the record of the tutti level, where tutti is on and the write is to it (R142). -/
theorem reloadSets_of_tutti {i : Nat} (ht : s.resolver.tutti = true) (hi : i = tuttiIndex s.resolver.tuttiLevel) :
    reloadSets i s = refreshSpeaking (loadTutti s.resolver.tuttiLevel s) := if_pos ⟨ht, hi⟩

theorem reloadSets_of_stage {i : Nat} (ht : s.resolver.tutti = false ∨ i ≠ tuttiIndex s.resolver.tuttiLevel)
    (hk : 0 < s.resolver.stage) (hi : i = stageIndex s.resolver.program s.resolver.stage) :
    reloadSets i s = refreshSpeaking (loadStage s.resolver.program s.resolver.stage s) := by
  rw [reloadSets, if_neg, if_pos ⟨hk, hi⟩]
  rintro ⟨h, h'⟩
  exact ht.elim (by simp [h]) (· h')

theorem reloadSets_of_neither {i : Nat} (ht : s.resolver.tutti = false ∨ i ≠ tuttiIndex s.resolver.tuttiLevel)
    (hk : s.resolver.stage = 0 ∨ i ≠ stageIndex s.resolver.program s.resolver.stage) : reloadSets i s = s := by
  rw [reloadSets, if_neg, if_neg]
  · rintro ⟨h, h'⟩
    exact hk.elim (by omega) (· h')
  · rintro ⟨h, h'⟩
    exact ht.elim (by simp [h]) (· h')

/-- A change of the sets and the refresh that follows it (R6, R142). -/
theorem refreshed_follows {r : Resolver} (hl : u.live = true) (hspeaking : r.speaking = u.resolver.speaking) :
    ∃ t, refreshSpeaking { u with resolver := r } = t ∧
      t = { u with resolver := t.resolver, outputs := t.outputs } ∧
      t.resolver = { r with speaking := t.resolver.speaks u.config.stops } ∧ u.shiftFollows t := by
  refine ⟨_, rfl, refreshSpeaking_frame _, ?_, shiftFollows_refreshSpeaking hl rfl hspeaking⟩
  have hrespoken : (refreshSpeaking { u with resolver := r }).resolver = r.respoken u.config.stops :=
    refreshSpeaking_resolver { u with resolver := r }
  rw [hrespoken, ← respoken_speaking]
  rfl

theorem nextIndex_eq {i : Nat} (h : i ≤ 7935) : nextIndex i = if i = 7935 then 0 else i + 1 := by
  unfold nextIndex lastIndex
  split
  · rw [if_neg (by omega)]
  · rw [if_pos (by omega)]

/-- The reload after an admitted service write (R142). -/
theorem reloadSets_follows {i : Nat} {bytes : EntryBytes} (hl : u.live = true) (hlevel : u.levelLaw)
    (hread : u.store.answer i = bytes) :
    (u.resolver.tutti = true → i = 7808 + u.resolver.tuttiLevel →
      reloadSets i u = { u with resolver := (reloadSets i u).resolver, outputs := (reloadSets i u).outputs } ∧
        (reloadSets i u).resolver = { u.resolver with
          tuttiAdd := stopsWith .draw (combinationView u.config.stops bytes)
          tuttiSilence := stopsWith .retire (combinationView u.config.stops bytes)
          speaking := (reloadSets i u).resolver.speaks u.config.stops } ∧
        u.shiftFollows (reloadSets i u)) ∧
    (0 < u.resolver.stage → i = 7680 + u.resolver.program * 32 + u.resolver.stage →
      reloadSets i u = { u with resolver := (reloadSets i u).resolver, outputs := (reloadSets i u).outputs } ∧
        (reloadSets i u).resolver = { u.resolver with
          addition := stageView u.config.stops bytes
          speaking := (reloadSets i u).resolver.speaks u.config.stops } ∧
        u.shiftFollows (reloadSets i u)) := by
  refine ⟨fun ht hi => ?_, fun hk hi => ?_⟩
  · have hload : loadTutti u.resolver.tuttiLevel u = { u with resolver := { u.resolver with
        tuttiAdd := stopsWith .draw (combinationView u.config.stops bytes)
        tuttiSilence := stopsWith .retire (combinationView u.config.stops bytes) } } := by
      have hentries : u.combination (tuttiIndex u.resolver.tuttiLevel) = combinationView u.config.stops bytes := by
        rw [State.combination, tuttiIndex, ← hi, hread]
      rw [loadTutti, hentries]
    rw [reloadSets_of_tutti ht hi, hload]
    obtain ⟨t, ht, hfacts⟩ := refreshed_follows (u := u) (r := { u.resolver with
      tuttiAdd := stopsWith .draw (combinationView u.config.stops bytes)
      tuttiSilence := stopsWith .retire (combinationView u.config.stops bytes) }) hl rfl
    rw [ht]
    exact hfacts
  · have hload : loadStage u.resolver.program u.resolver.stage u = { u with resolver := { u.resolver with
        addition := stageView u.config.stops bytes } } := by
      rw [loadStage, stageIndex, ← hi, hread]
    have htutti : i ≠ tuttiIndex u.resolver.tuttiLevel := by
      obtain ⟨-, -, -, hp, hk', -⟩ := hlevel
      unfold tuttiIndex
      omega
    rw [reloadSets_of_stage (.inr htutti) hk hi, hload]
    obtain ⟨t, ht, hfacts⟩ := refreshed_follows (u := u) (r := { u.resolver with
      addition := stageView u.config.stops bytes }) hl rfl
    rw [ht]
    exact hfacts

theorem recordOffered_frame (data : List Byte) (s : State) :
    (s.recordOffered data).node = s.node ∧ (s.recordOffered data).config = s.config ∧
      (s.recordOffered data).resolver = s.resolver ∧ (s.recordOffered data).outputs = s.outputs := by
  simp [State.recordOffered]

/-- A completed record that the store admits (R142, R210). -/
theorem recordComplete_admitted {data : List Byte} (hl : s.live = true) (hw : s.writeListLaw) (hlevel : s.levelLaw)
    (ha : (offerWrite s.service.writePointer.index (bytesOfParts data) .service s).2 = true) :
    let i := s.service.writePointer.index
    let u := s.recordOffered data
    let t := recordComplete data s
    t.store.answer i = bytesOfParts data ∧ t.store.changedFlag i = false ∧
      (s.resolver.tutti = true → i = 7808 + s.resolver.tuttiLevel →
        t = { u with resolver := t.resolver, outputs := t.outputs } ∧
        t.resolver = { s.resolver with
          tuttiAdd := stopsWith .draw (combinationView s.config.stops (bytesOfParts data))
          tuttiSilence := stopsWith .retire (combinationView s.config.stops (bytesOfParts data))
          speaking := t.resolver.speaks s.config.stops } ∧
        s.shiftFollows t) ∧
      (0 < s.resolver.stage → i = 7680 + s.resolver.program * 32 + s.resolver.stage →
        t = { u with resolver := t.resolver, outputs := t.outputs } ∧
        t.resolver = { s.resolver with
          addition := stageView s.config.stops (bytesOfParts data)
          speaking := t.resolver.speaks s.config.stops } ∧
        s.shiftFollows t) ∧
      ((s.resolver.tutti = false ∨ i ≠ 7808 + s.resolver.tuttiLevel) →
        (s.resolver.stage = 0 ∨ i ≠ 7680 + s.resolver.program * 32 + s.resolver.stage) → t = u) := by
  intro i u t
  have ht : t = reloadSets i u := by
    simp only [t, recordComplete_eq, ha, if_true]
    rfl
  obtain ⟨hanswer, hchanged, -⟩ := offerWrite_admitted hw ha
  obtain ⟨hnode, hconfig, hresolver, houtputs⟩ := recordOffered_frame data s
  have hstore : t.store = u.store := by rw [ht, reloadSets_store]
  have hlevel' : u.levelLaw := by
    simp only [u, State.levelLaw, hconfig, hresolver]
    exact hlevel
  obtain ⟨htutti, hstage⟩ := reloadSets_follows (u := u) (i := i) ((live_congr hnode).trans hl) hlevel' hanswer
  have hshift (h : u.shiftFollows t) : s.shiftFollows t :=
    shiftFollows_congr h houtputs.symm (congrArg Resolver.speaking hresolver.symm)
  rw [← ht, show u.resolver = s.resolver from hresolver] at htutti hstage
  have hsame : u.config = s.config := hconfig
  refine ⟨by rw [hstore]; exact hanswer, by rw [hstore]; exact hchanged, fun h1 h2 => ?_, fun h1 h2 => ?_, fun h1 h2 => ?_⟩
  · obtain ⟨hframe, hr, hs⟩ := htutti h1 h2
    rw [hsame] at hr
    exact ⟨hframe, hr, hshift hs⟩
  · obtain ⟨hframe, hr, hs⟩ := hstage h1 h2
    rw [hsame] at hr
    exact ⟨hframe, hr, hshift hs⟩
  · rw [ht]
    refine reloadSets_of_neither ?_ ?_
    · rw [show u.resolver = s.resolver from hresolver]
      exact h1
    · rw [show u.resolver = s.resolver from hresolver]
      exact h2

/-- Settles O51. -/
theorem storeWriteBuildsARecord : Obligations.StoreWriteBuildsARecord := by
  intro a target data s h hv hd
  obtain ⟨-, -, hindex, hpart, hreceived, -⟩ := hv
  refine ⟨fun hn => ?_, fun ht ho => ?_⟩
  · rw [exec_storeWrite, execStoreWrite, forTarget_of_not_obeyed h (by simpa using hd) hn]
  rw [exec_storeWrite_of_obeyed h hd ht ho, ← partLength_eq hpart]
  refine ⟨fun hp hlen => ?_, fun hlen => ?_, fun hp hlen => ?_⟩
  · have hfits : data.length = partLength s.service.writePointer.part := by
      rw [partLength_eq hpart, if_neg (by omega), hlen]
    simp only [takePart, if_pos hfits, if_pos hp]
  · simp only [takePart, if_neg hlen]
  · have hall : (s.service.received ++ data).length = 16 := by rw [List.length_append, hreceived, hp, hlen]
    have htake : takePart data s.frameTaken = recordComplete (s.service.received ++ data) s.frameTaken := by
      simp only [takePart, hp, partLength, hlen, if_true, Nat.lt_irrefl, if_false]
    refine ⟨_, bytesOfParts (s.service.received ++ data), _, s.frameTaken.recordOffered (s.service.received ++ data), _,
      congrArg Host.Outcome.next htake, rfl, bytesOfParts_getElem? hall, rfl, ?_, fun hr => ?_, fun ha hw hlevel => ?_⟩
    · rw [← nextIndex_eq hindex]
      rfl
    · rw [recordComplete_eq]
      exact if_neg (by rw [hr]; nofun)
    · exact recordComplete_admitted (s := s.frameTaken) h.1 hw hlevel ha

end

end Sys2Proof.Machine
end

section
/-! PROOF. The replies of service access and the FAULT-NOTE that is owed, offered at a free place (O54). -/

namespace Sys2Proof.Machine

section
variable {s t u : State}

/-! ### A frame that joins the queue -/

/-- A frame that joins the queue reads nothing of service access and leaves it alone (R170, R181). -/
theorem joinQueue_withService (b : Body) (sv : Service) (s : State) :
    joinQueue b { s with service := sv } = { joinQueue b s with service := sv } := by
  have halike : ReadsAlike s { s with service := sv } := ⟨rfl, rfl, rfl, rfl, rfl, rfl, rfl, rfl⟩
  have h := (halike.joinQueue b).link
  conv_lhs => rw [joinQueue_frame, h]
  conv_rhs => rw [joinQueue_frame]

theorem startAttempt_length (s : State) : (startAttempt s).link.queue.length = s.link.queue.length := by
  rcases startAttempt_cases s with e | ⟨e, q, hq, -, -, heq⟩
  · rw [e]
  · rw [heq, hq]
    rfl

theorem joinQueue_length (b : Body) (s : State) : (joinQueue b s).link.queue.length = s.link.queue.length + 1 := by
  rw [joinQueue, startAttempt_length]
  exact (insertEntry_perm _ _).length_eq

/-! ### The lowest changed index -/

theorem firstChanged_eq_some {st : Store} {start count i : Nat} (hi : start ≤ i) (hlast : i < start + count)
    (hchanged : st.changedFlag i = true) (hfirst : ∀ j, start ≤ j → j < i → st.changedFlag j = false) :
    st.firstChanged start count = some i := by
  induction count generalizing start with
  | zero => omega
  | succ count ih =>
    rw [Store.firstChanged]
    by_cases he : start = i
    · rw [if_pos (he ▸ hchanged), he]
    · rw [if_neg (by simp [hfirst start le_rfl (by omega)])]
      exact ih (by omega) (by omega) fun j hj => hfirst j (by omega)

theorem firstChanged_eq_none {st : Store} {start count : Nat}
    (h : ∀ j, start ≤ j → j < start + count → st.changedFlag j = false) : st.firstChanged start count = none := by
  induction count generalizing start with
  | zero => rfl
  | succ count ih =>
    rw [Store.firstChanged, if_neg (by simp [h start le_rfl (by omega)])]
    exact ih fun j hj hlt => h j (by omega) (by omega)

/-! ### One part -/

/-- A part offered to a free place joins the queue and is counted (R212). -/
theorem offerPart_joins {bytes : EntryBytes} (sv : Service) (hp : hasPlace s.link.queue = true) :
    offerPart bytes { s with service := sv } =
      { joinQueue (.storeData (BitVec.ofNat 8 sv.readPointer.part) (recordPart bytes sv.readPointer.part)) s with
        service := sv.partOffered } := by
  rw [offerPart_of_place (s := { s with service := sv }) hp, offer_plain rfl rfl, if_pos (by exact hp)]
  exact congrArg (fun x : State => { x with service := sv.partOffered }) (joinQueue_withService _ sv s)

/-- Part 0 reads the record into the read copy first (R212). -/
theorem offerNextPart_of_first (h : s.service.readPointer.part = 0) : offerNextPart s =
    if hasPlace (readRecord s.service.readPointer.index s).link.queue then
      offerPart (s.store.answer s.service.readPointer.index) { readRecord s.service.readPointer.index s with
        service := { s.service with readCopy := some (s.store.answer s.service.readPointer.index) } }
    else readRecord s.service.readPointer.index s := by
  unfold offerNextPart
  dsimp only
  rw [h, readRecord_service]
  rfl

theorem offerNextPart_of_later {bytes : EntryBytes} (h : s.service.readPointer.part ≠ 0)
    (hc : s.service.readCopy = some bytes) : offerNextPart s = offerPart bytes s := by
  unfold offerNextPart
  dsimp only
  rw [hc]
  split
  · exact absurd ‹_› h
  · exact congrArg (fun b => offerPart b s) (Option.some.inj ‹_›).symm
  · rename_i hnone _
    cases hnone

/-- What one part makes of a node with a free place: it joins the queue, or the FAULT-NOTE of a damaged record takes
the place (R186, R212). -/
theorem offerNextPart_cases (hv : s.serviceLaw) :
    (offerNextPart s = readRecord s.service.readPointer.index s ∧
      hasPlace (readRecord s.service.readPointer.index s).link.queue = false) ∨
    ∃ r bytes sv, (r = s ∨ r = readRecord s.service.readPointer.index s) ∧ sv.scan = s.service.scan ∧
      offerNextPart s = offerPart bytes { r with service := sv } ∧ (r = s ∨ hasPlace r.link.queue = true) := by
  by_cases hpart : s.service.readPointer.part = 0
  · rw [offerNextPart_of_first hpart]
    cases hp : hasPlace (readRecord s.service.readPointer.index s).link.queue
    · exact .inl ⟨if_neg (by simp), rfl⟩
    · exact .inr ⟨_, _, { s.service with readCopy := some (s.store.answer s.service.readPointer.index) }, .inr rfl, rfl,
        if_pos (by rfl), .inr hp⟩
  · obtain ⟨-, -, -, -, -, hcopy, -⟩ := hv
    obtain ⟨bytes, hc⟩ := Option.ne_none_iff_exists'.1 (mt hcopy.1 hpart)
    exact .inr ⟨s, bytes, s.service, .inl rfl, rfl, offerNextPart_of_later hpart hc, .inl rfl⟩

/-! ### Part after part -/

/-- A node from which STORE-DATA goes on: no scan is held and no FAULT-NOTE is due first (R186, R214). -/
structure State.SendsParts (s : State) : Prop where
  live : s.live = true
  law : s.serviceLaw
  scan : s.service.scan = none
  due : (s.faults.notePending && s.faults.retryDue) = false

theorem State.SendsParts.partMayBeOffered (h : s.SendsParts) :
    s.partMayBeOffered = (hasPlace s.link.queue && decide (0 < s.service.outstanding)) := by
  simp [State.partMayBeOffered, State.replyMayBeOffered, h.live, h.scan, h.due]

/-- A read at a free place makes no FAULT-NOTE due, and takes no frame off the queue. -/
theorem readRecord_at_place (i : Nat) (hp : hasPlace s.link.queue = true)
    (hdue : (s.faults.notePending && s.faults.retryDue) = false) :
    ((readRecord i s).faults.notePending && (readRecord i s).faults.retryDue) = false ∧
      s.link.queue.length ≤ (readRecord i s).link.queue.length := by
  have hcall : ((noteCall (raiseFlag .damaged s)).faults.notePending && (noteCall (raiseFlag .damaged s)).faults.retryDue)
      = false ∧ s.link.queue.length ≤ (noteCall (raiseFlag .damaged s)).link.queue.length := by
    cases hpending : s.faults.notePending
    · cases hn : holdsNote s.link.queue
      · rw [noteCall_of_place (s := raiseFlag .damaged s) hpending hn hp, joinQueue_faults, joinQueue_length]
        exact ⟨rfl, Nat.le_succ _⟩
      · rw [noteCall_of_held (s := raiseFlag .damaged s) hpending hn]
        exact ⟨rfl, (mergeNote_length _).ge⟩
    · rw [noteCall_of_pending (s := raiseFlag .damaged s) hpending]
      exact ⟨hdue, le_rfl⟩
  unfold readRecord
  split
  · rcases setFlag_cases .damaged s with ⟨-, e⟩ | ⟨-, -, e⟩ <;> rw [e]
    · exact ⟨hdue, le_rfl⟩
    · exact hcall
  · exact ⟨hdue, le_rfl⟩

theorem partOffered_scan (sv : Service) : sv.partOffered.scan = sv.scan := by
  unfold Service.partOffered
  split <;> rfl

/-- A part leaves a node from which STORE-DATA goes on, with a longer queue (R212). -/
theorem State.SendsParts.offerNextPart (h : s.SendsParts) (hp : hasPlace s.link.queue = true) :
    (offerNextPart s).SendsParts ∧ s.link.queue.length < (Machine.offerNextPart s).link.queue.length := by
  obtain ⟨hl, hv, hscan, hdue⟩ := h
  obtain ⟨hdue', hlength⟩ := readRecord_at_place s.service.readPointer.index hp hdue
  have hread : (readRecord s.service.readPointer.index s).live = true := (live_congr (readRecord_node _ s)).trans hl
  have hlaw : (Machine.offerNextPart s).serviceLaw := (keeps_offerNextPart hl hp).service hv
  rcases offerNextPart_cases hv with ⟨e, hfull⟩ | ⟨r, bytes, sv, hr, hsv, e, hplace⟩
  · have hlt := hasPlace_iff.1 hp
    have hge : ¬ _ := mt hasPlace_iff.2 (Bool.eq_false_iff.1 hfull)
    rw [e] at hlaw ⊢
    exact ⟨⟨hread, hlaw, by rw [readRecord_service, hscan], hdue'⟩, by omega⟩
  · have hplace' : hasPlace r.link.queue = true := hplace.elim (fun he => he ▸ hp) id
    have hlive : r.live = true := by rcases hr with rfl | rfl <;> assumption
    have hr' : (r.faults.notePending && r.faults.retryDue) = false ∧ s.link.queue.length ≤ r.link.queue.length := by
      rcases hr with rfl | rfl
      · exact ⟨hdue, le_rfl⟩
      · exact ⟨hdue', hlength⟩
    rw [e, offerPart_joins sv hplace'] at hlaw ⊢
    refine ⟨⟨(live_congr (joinQueue_node _ r)).trans hlive, hlaw, by rw [partOffered_scan, hsv, hscan], ?_⟩, ?_⟩
    · rw [joinQueue_faults]
      exact hr'.1
    · dsimp only
      rw [joinQueue_length]
      omega

/-- Parts offered one after another, each to a free place. -/
theorem State.SendsParts.iterate (h : s.SendsParts) {n : Nat}
    (hp : ∀ k, k < n → hasPlace (Machine.offerNextPart^[k] s).link.queue = true) :
    (Machine.offerNextPart^[n] s).SendsParts ∧
      s.link.queue.length + n ≤ (Machine.offerNextPart^[n] s).link.queue.length := by
  induction n with
  | zero => exact ⟨h, le_rfl⟩
  | succ n ih =>
    obtain ⟨hn, hlength⟩ := ih fun k hk => hp k (by omega)
    obtain ⟨hnext, hlonger⟩ := hn.offerNextPart (hp n (by omega))
    rw [Function.iterate_succ_apply']
    exact ⟨hnext, by omega⟩

/-- STORE-DATA offers parts until the queue is full or none remains (R212). -/
theorem storeData_fills (h : s.SendsParts) (hp : hasPlace s.link.queue = true) (ho : 0 < s.service.outstanding) :
    ∃ n, 0 < n ∧ exec .storeData s = .next (offerNextPart^[n] s) ∧
      (∀ k, k < n → hasPlace (offerNextPart^[k] s).link.queue = true ∧
        0 < (offerNextPart^[k] s).service.outstanding) ∧
      (hasPlace (offerNextPart^[n] s).link.queue = false ∨ (offerNextPart^[n] s).service.outstanding = 0) := by
  obtain ⟨n, hn, he, hk, hend⟩ := offerParts_cases (queueLimit - s.link.queue.length) s
  have hplaces := hasPlace_iff.1 hp
  have hparts (k : Nat) (hkn : k ≤ n) : (offerNextPart^[k] s).SendsParts ∧
      s.link.queue.length + k ≤ (offerNextPart^[k] s).link.queue.length := by
    refine h.iterate fun j hj => ?_
    have hmay := hk j (by omega)
    simp only [State.partMayBeOffered, State.replyMayBeOffered, Bool.and_eq_true] at hmay
    exact hmay.1.1.1.2
  refine ⟨n, ?_, by rw [exec_storeData, execStoreData, he], fun k hkn => ?_, ?_⟩
  · rcases hend with rfl | hend
    · omega
    · refine Nat.pos_of_ne_zero fun hzero => ?_
      subst hzero
      simp [h.partMayBeOffered, hp, ho] at hend
  · have hmay := hk k hkn
    rw [(hparts k hkn.le).1.partMayBeOffered] at hmay
    simpa using hmay
  · obtain ⟨hsends, hlength⟩ := hparts n le_rfl
    rcases hend with rfl | hend
    · exact .inl (Bool.eq_false_iff.2 fun hplace => absurd (hasPlace_iff.1 hplace) (by omega))
    · rw [hsends.partMayBeOffered] at hend
      cases hplace : hasPlace (offerNextPart^[n] s).link.queue
      · exact .inl rfl
      · exact .inr (by simpa [hplace] using hend)

/-! ### What one part carries -/

theorem recordPart_allLeave : recordPart allLeave 0 = List.replicate 6 0#8 := by
  simp [recordPart, allLeave]

/-- Part 0 of a record, once it has been read (R212). -/
theorem offerNextPart_first (h : s.service.readPointer.part = 0)
    (hp : hasPlace (readRecord s.service.readPointer.index s).link.queue = true) : offerNextPart s =
      { joinQueue (.storeData 0#8 (recordPart (s.store.answer s.service.readPointer.index) 0))
          (readRecord s.service.readPointer.index s) with
        service := { s.service with
          readPointer := ⟨s.service.readPointer.index, 1⟩
          readCopy := some (s.store.answer s.service.readPointer.index) } } := by
  rw [offerNextPart_of_first h, if_pos hp, offerPart_joins _ hp]
  simp only [Service.partOffered, h, Nat.zero_add, Nat.zero_lt_two, if_true]

/-- A later part of a record, from the read copy (R212). -/
theorem offerNextPart_later {bytes : EntryBytes} (h : s.service.readPointer.part ≠ 0)
    (hc : s.service.readCopy = some bytes) (hp : hasPlace s.link.queue = true) : offerNextPart s =
      { joinQueue (.storeData (BitVec.ofNat 8 s.service.readPointer.part) (recordPart bytes s.service.readPointer.part)) s with
        service := s.service.partOffered } := by
  rw [offerNextPart_of_later h hc]
  exact offerPart_joins s.service hp

/-- What a part is, by the part count of the read pointer (R207, R212). -/
theorem offerNextPart_carries (hp : hasPlace s.link.queue = true) :
    (s.service.readPointer.part = 0 → s.store.readDamaged s.service.readPointer.index = false →
      offerNextPart s =
        { joinQueue (.storeData 0#8 ((s.store.answer s.service.readPointer.index).toList.take 6)) s with
          service := { s.service with
            readPointer := ⟨s.service.readPointer.index, 1⟩
            readCopy := some (s.store.answer s.service.readPointer.index) } }) ∧
    (s.service.readPointer.part = 0 → s.store.readDamaged s.service.readPointer.index = true →
      s.store.answer s.service.readPointer.index = Vector.replicate 16 0#8 ∧
      (hasPlace (setFlag .damaged s).link.queue = true →
        offerNextPart s =
          { joinQueue (.storeData 0#8 (List.replicate 6 0#8)) (setFlag .damaged s) with
            service := { s.service with
              readPointer := ⟨s.service.readPointer.index, 1⟩
              readCopy := some (Vector.replicate 16 0#8) } }) ∧
      (hasPlace (setFlag .damaged s).link.queue = false → offerNextPart s = setFlag .damaged s)) ∧
    (∀ bytes, s.service.readPointer.part = 1 → s.service.readCopy = some bytes →
      offerNextPart s =
        { joinQueue (.storeData 1#8 ((bytes.toList.drop 6).take 6)) s with
          service := { s.service with readPointer := ⟨s.service.readPointer.index, 2⟩ } }) ∧
    (∀ bytes, s.service.readPointer.part = 2 → s.service.readCopy = some bytes →
      offerNextPart s =
        { joinQueue (.storeData 2#8 (bytes.toList.drop 12)) s with
          service := { s.service with
            readPointer := ⟨if s.service.readPointer.index < 7935 then s.service.readPointer.index + 1 else 0, 0⟩
            readCopy := none
            outstanding := s.service.outstanding - 1 } }) := by
  refine ⟨fun h hd => ?_, fun h hd => ⟨Store.answer_of_readDamaged hd, fun hplace => ?_, fun hfull => ?_⟩,
    fun bytes h hc => ?_, fun bytes h hc => ?_⟩
  · have hread := readRecord_of_sound hd
    rw [offerNextPart_first h (by rwa [hread]), hread]
    rfl
  · have hread := readRecord_of_damaged hd
    rw [offerNextPart_first h (by rwa [hread]), hread, Store.answer_of_readDamaged hd, recordPart_allLeave]
    rfl
  · rw [offerNextPart_of_first h, readRecord_of_damaged hd, if_neg (by simp [hfull])]
  · rw [offerNextPart_later (by omega) hc hp, Service.partOffered, h]
    rfl
  · rw [offerNextPart_later (by omega) hc hp, Service.partOffered, h]
    rfl

/-! ### The other replies -/

/-- The answer to a scan (R214). -/
def scanBody : Option Nat → Body
  | some i => .scanReply 1#8 (highByte i) (lowByte i)
  | none => .scanReply 0#8 0#8 0#8

theorem scanBody_plain (found : Option Nat) : (scanBody found).isShoe = false ∧ (scanBody found).isCancel = false := by
  cases found <;> exact ⟨rfl, rfl⟩

theorem exec_scanReply_of_place {start : Nat} (hr : s.replyMayBeOffered = true) (hs : s.service.scan = some start) :
    exec .scanReply s = .next { joinQueue (scanBody (s.store.firstChanged start (recordCount - start))) s with
      service := { s.service with scan := none } } := by
  have hp : hasPlace s.link.queue = true := by
    simp only [State.replyMayBeOffered, Bool.and_eq_true] at hr
    exact hr.1.2
  have hexec : exec .scanReply s = .next (offer (scanBody (s.store.firstChanged start (recordCount - start)))
      { s with service := { s.service with scan := none } }).1 := by
    rw [exec_scanReply, execScanReply, hs]
    dsimp only
    rw [if_pos hr]
    cases s.store.firstChanged start (recordCount - start) <;> rfl
  obtain ⟨hshoe, hcancel⟩ := scanBody_plain (s.store.firstChanged start (recordCount - start))
  rw [hexec, offer_plain hshoe hcancel, if_pos (by exact hp)]
  exact congrArg Host.Outcome.next (joinQueue_withService _ { s.service with scan := none } s)

/-- SCAN-REPLY answers with the lowest changed index from the start of the scan, or with found 0 (R214). -/
theorem scanReply_answers {start : Nat} (hr : s.replyMayBeOffered = true) (hs : s.service.scan = some start) :
    (∀ i, start ≤ i → i ≤ 7935 → s.store.changedFlag i = true →
      (∀ j, start ≤ j → j < i → s.store.changedFlag j = false) →
      exec .scanReply s = .next
        { joinQueue (.scanReply 1#8 (BitVec.ofNat 8 (i / 256)) (BitVec.ofNat 8 i)) s with
          service := { s.service with scan := none } }) ∧
    ((∀ i, start ≤ i → i ≤ 7935 → s.store.changedFlag i = false) →
      exec .scanReply s = .next
        { joinQueue (.scanReply 0#8 0#8 0#8) s with service := { s.service with scan := none } }) := by
  refine ⟨fun i hi hlast hchanged hfirst => ?_, fun hnone => ?_⟩
  · have hfound : s.store.firstChanged start (recordCount - start) = some i :=
      firstChanged_eq_some hi (by simp only [recordCount]; omega) hchanged hfirst
    rw [exec_scanReply_of_place hr hs, hfound]
    rfl
  · have hfound : s.store.firstChanged start (recordCount - start) = none :=
      firstChanged_eq_none fun j hj hlt => hnone j hj (by simp only [recordCount] at hlt; omega)
    rw [exec_scanReply_of_place hr hs, hfound]
    rfl

theorem exec_faultNoteRetry_of_due (hl : s.live = true) (hp : s.faults.notePending = true)
    (hd : s.faults.retryDue = true) :
    exec .faultNoteRetry s = .next (offerNote { s with faults := { s.faults with retryDue := false } }) := by
  simp only [exec_faultNoteRetry, execFaultNoteRetry, hl, hp, hd, Bool.and_self, if_true]

/-- FAULT-NOTE-RETRY offers the FAULT-NOTE that is owed (R184, R201). -/
theorem faultNoteRetry_offers (hl : s.live = true) (hp : s.faults.notePending = true) (hd : s.faults.retryDue = true) :
    (holdsNote s.link.queue = true → exec .faultNoteRetry s = .next
      { s with
        link := { s.link with queue := mergeNote s.link.queue }
        faults := { s.faults with notePending := false, retryDue := false } }) ∧
    (holdsNote s.link.queue = false → hasPlace s.link.queue = true → exec .faultNoteRetry s = .next
      (joinQueue .faultNote { s with faults := { s.faults with notePending := false, retryDue := false } })) ∧
    (holdsNote s.link.queue = false → hasPlace s.link.queue = false → s.faults.has .txOverflow = true →
      exec .faultNoteRetry s = .next { s with faults := { s.faults with retryDue := false } }) := by
  rw [exec_faultNoteRetry_of_due hl hp hd]
  have hcases := offerNote_cases { s with faults := { s.faults with retryDue := false } }
  have hover : Faults.has { s.faults with retryDue := false } .txOverflow = s.faults.has .txOverflow := rfl
  dsimp only at hcases
  rw [hover] at hcases
  refine ⟨fun hn => ?_, fun hn hplace => ?_, fun hn hfull hset => ?_⟩
  · simp only [hn, true_and, reduceCtorEq, false_and, or_false] at hcases
    rw [hcases]
    rfl
  · simp only [hn, hplace, true_and, reduceCtorEq, false_and, or_false, false_or] at hcases
    rw [hcases]
    rfl
  · simp only [hn, hfull, hset, true_and, reduceCtorEq, false_and, or_false, false_or] at hcases
    rw [hcases]
    simp only [setNotePending, Bool.true_and, hp]

/-- Settles O54. -/
theorem repliesAreOfferedAtAFreePlace : Obligations.RepliesAreOfferedAtAFreePlace := by
  intro s
  refine ⟨fun hv hr hs ho => ?_, offerNextPart_carries, fun start hr hs => scanReply_answers hr hs,
    fun hl hp hd => faultNoteRetry_offers hl hp hd, fun h => ?_, fun h => ?_, fun h => ?_⟩
  · simp only [State.replyMayBeOffered, Bool.and_eq_true, Bool.not_eq_true'] at hr
    exact storeData_fills ⟨hr.1.1, hv, hs, hr.2⟩ hr.1.2 ho
  · have hnone : s.partMayBeOffered = false := by
      rcases h with h | h | h
      · simp [State.partMayBeOffered, h]
      · simp [State.partMayBeOffered, h]
      · simp [State.partMayBeOffered, Option.isSome_iff_ne_none.2 h, ← Option.not_isSome]
    rw [exec_storeData, execStoreData]
    cases queueLimit - s.link.queue.length with
    | zero => rfl
    | succ places => rw [offerParts, if_neg (by simp [hnone])]
  · rw [exec_scanReply, execScanReply]
    rcases h with h | h
    · cases s.service.scan
      · rfl
      · exact if_neg (by simp [h])
    · rw [h]
  · rw [exec_faultNoteRetry, execFaultNoteRetry, if_neg]
    rcases h with h | h <;> simp [h]

end

end Sys2Proof.Machine
end

section
/-! PROOF. Starts: what each begins with and takes, and what a lost supply leaves (O16, O17, O18, O24). -/

namespace Sys2Proof.Machine

section
variable {s t : State} {y z : Straps} {ys : List Straps}

/-! ### A start -/

/-- The straps as the next reading finds them, and those still to come (R219; log 9). -/
abbrev Pins.nextReading (p : Pins) (y : Straps) (ys : List Straps) : Prop :=
  p.strapsToCome = [] ∧ y = p.straps ∧ ys = [] ∨ p.strapsToCome = y :: ys

theorem afterReading_eq {p : Pins} (h : p.nextReading y ys) :
    p.afterReading = ⟨y, p.resetActive, p.supplyGood, ys⟩ := by
  rw [Pins.afterReading, strapReading_eq h]
  rcases h with ⟨hnone, -, rfl⟩ | hsome
  · rw [hnone]
    rfl
  · rw [hsome]
    rfl

theorem startLoad_eq (h : s.pins.nextReading y ys) : startLoad s = { s with
    node := .starting (.ready (configFault y s.block))
    pins := ⟨y, s.pins.resetActive, s.pins.supplyGood, ys⟩
    straps := y
    config := configAtStart y s.block
    blockWrite := none
    scanner := s.scanner.started
    resolver := Resolver.initial
    faults := ⟨if configFault y s.block then Flag.mask .config else 0#10, 0, s.faults.cause, false, false, none⟩
    service := Service.initial
    shoe := Shoe.initial } := by
  unfold startLoad
  dsimp only
  rw [strapReading_eq h, afterReading_eq h]
  rfl

/-- A start that finds no write in progress discards the waiting ones and reads straps and block (R48, R224). -/
theorem startStore_of_idle (hs : s.store.stage = none) :
    startStore s = startLoad { s with store := { s.store with writes := [] } } := by
  rw [startStore, hs]
  rfl

/-- A start that finds a write in progress waits for it (R48). -/
theorem startStore_of_writing (hs : s.store.stage ≠ none) : startStore s =
    { s with node := .starting .storeFinishing, store := { s.store with writes := s.store.writes.take 1 } } :=
  if_pos (Option.isSome_iff_ne_none.2 hs)

theorem beginStart_of_active (cause : StartCause) (hr : s.pins.resetActive = true) :
    beginStart cause s = startCut cause s := if_pos hr

theorem beginStart_of_free (cause : StartCause) (hr : s.pins.resetActive = false) :
    beginStart cause s = startStore (startCut cause s) := if_neg (by simp [hr])

/-- A start from the cut to the values after start (R224, R227). -/
theorem beginStart_of_idle (cause : StartCause) (hr : s.pins.resetActive = false) (hs : s.store.stage = none)
    (h : s.pins.nextReading y ys) : beginStart cause s = { s with
      node := .starting (.ready (configFault y s.block))
      pins := ⟨y, s.pins.resetActive, s.pins.supplyGood, ys⟩
      straps := y
      config := configAtStart y s.block
      blockWrite := none
      store := { s.store with writes := [] }
      scanner := s.scanner.started
      resolver := Resolver.initial
      sequencer := Sequencer.initial
      link := Link.initial
      outputs := { Outputs.initial with latched := s.outputs.latched }
      faults := ⟨if configFault y s.block then Flag.mask .config else 0#10, 0, cause, false, false, none⟩
      service := Service.initial
      shoe := Shoe.initial } := by
  have hstage : (startCut cause s).store.stage = none := hs
  rw [beginStart_of_free cause hr, startStore_of_idle hstage]
  exact startLoad_eq (s := { startCut cause s with store := { (startCut cause s).store with writes := [] } }) h

/-! ### RESET_LINE and RESET_RELEASE -/

/-- Settles O17. -/
theorem resetLineHoldsAndReleaseGoesOn : Obligations.ResetLineHoldsAndReleaseGoesOn := by
  refine fun z s => ⟨fun hp hr => ?_, fun hp hr => ?_, fun y ys hn hr hs h => ?_, fun hn hr hs => ?_⟩
  · simp only [exec_resetLine, execResetLine, hr, hp, Bool.false_eq_true, if_false, if_true]
    rw [beginStart_of_active _ rfl]
    rfl
  · simp only [exec_resetLine, execResetLine, hr, hp, Bool.false_eq_true, if_false]
  · have hexec : exec .resetRelease s = .next (startStore { s with pins := { s.pins with resetActive := false } }) := by
      simp only [exec_resetRelease, execResetRelease, hr, hn, and_self, if_true]
    rw [hexec, startStore_of_idle (s := { s with pins := { s.pins with resetActive := false } }) hs]
    exact congrArg Host.Outcome.next (startLoad_eq
      (s := { s with pins := { s.pins with resetActive := false }, store := { s.store with writes := [] } }) h)
  · have hexec : exec .resetRelease s = .next (startStore { s with pins := { s.pins with resetActive := false } }) := by
      simp only [exec_resetRelease, execResetRelease, hr, hn, and_self, if_true]
    rw [hexec, startStore_of_writing (s := { s with pins := { s.pins with resetActive := false } }) hs]

/-! ### RESTART -/

theorem exec_restart_of_target {a : Address} {target : Byte} (h : s.readsFrame) (ht : s.isTarget target = true) :
    exec (.restart a target) s = .next (beginStart .link s.frameTaken) := by
  rw [exec_restart, execRestart, forTarget_of_target h rfl ht]

/-- Settles O18. -/
theorem restartBeginsAStart : Obligations.RestartBeginsAStart := by
  refine fun a target s h => ⟨fun y ys ht hr hs hy => ?_, fun ht hr hs => ?_, fun ht hr => ?_, fun ht => ?_⟩
  · rw [exec_restart_of_target h ht, beginStart_of_idle (s := s.frameTaken) .link hr hs hy]
  · have hstage : (startCut .link s.frameTaken).store.stage ≠ none := hs
    rw [exec_restart_of_target h ht, beginStart_of_free (s := s.frameTaken) .link hr, startStore_of_writing hstage]
    exact ⟨_, rfl, rfl, rfl, rfl, rfl, rfl, rfl, rfl, rfl, rfl⟩
  · rw [exec_restart_of_target h ht, beginStart_of_active (s := s.frameTaken) .link hr]
    exact ⟨_, rfl, rfl, rfl, rfl, rfl, rfl, rfl, rfl, rfl, rfl⟩
  · rw [exec_restart, execRestart, forTarget_of_other h rfl ht]

/-! ### The block as a start reads it -/

theorem clampTo_eq {low high : Nat} (h : low ≤ high) (n : Nat) :
    clampTo low high n = if n < low then low else if high < n then high else n := by
  unfold clampTo
  split
  · omega
  · split <;> omega

theorem min_eq_ite (n high : Nat) : min n high = if high < n then high else n := by
  split <;> omega

theorem blockBalances_eq_false {b : ConfigBlock} : blockBalances b = false ↔ b.toList.sum ≠ 0#8 := beq_eq_false_iff_ne

/-- Whether a piston map entry is a fault, by its scope code (R221). -/
theorem pistonFault_iff {b : ConfigBlock} {i : Fin 16} : pistonFault b i = true ↔
    pistonScope b i = 3#2 ∨ (pistonScope b i = 1#2 ∧ (pistonNumber b i = 0 ∨ 48 < pistonNumber b i)) ∨
      (pistonScope b i = 2#2 ∧ (pistonNumber b i = 0 ∨ 12 < pistonNumber b i)) := by
  unfold pistonFault
  have hcodes : ∀ c : BitVec 2, c = 0#2 ∨ c = 1#2 ∨ c = 2#2 ∨ c = 3#2 := by decide
  rcases hcodes (pistonScope b i) with h | h | h | h <;> simp [h]

/-- What is a configuration fault (R221). -/
theorem configFault_iff {b : ConfigBlock} : configFault z b = true ↔
    b.toList.sum ≠ 0#8 ∨ (b[0]).toNat = 0 ∨ 64 < (b[0]).toNat ∨ z.address = 0#6 ∨
      ∃ i : Fin 16, pistonScope b i = 3#2 ∨ (pistonScope b i = 1#2 ∧ (pistonNumber b i = 0 ∨ 48 < pistonNumber b i)) ∨
        (pistonScope b i = 2#2 ∧ (pistonNumber b i = 0 ∨ 12 < pistonNumber b i)) := by
  have hany : (List.finRange 16).any (pistonFault b) = true ↔ ∃ i : Fin 16, pistonFault b i = true := by simp
  simp only [← pistonFault_iff, ← hany, ← blockBalances_eq_false]
  have hbyte : blockByte b 0 = (b[0]).toNat := rfl
  simp only [configFault, Bool.or_eq_true, Bool.not_eq_true', beq_iff_eq, decide_eq_true_eq, hbyte]
  tauto

theorem configAtStart_of_sound {b : ConfigBlock} (h : configFault z b = false) : configAtStart z b = readConfig z b :=
  if_neg (by simp [h])

theorem configAtStart_of_fault {b : ConfigBlock} (h : configFault z b = true) : configAtStart z b = handOnlyConfig :=
  if_pos h

theorem readExcluded_eq (b : ConfigBlock) (n : StopNo) : readExcluded b n =
    (b[64 + n.val / 2]'(by omega)).getLsbD (if n.val % 2 = 0 then 2 else 6) := by
  have hbit : 4 * (n.val % 2) + 2 = if n.val % 2 = 0 then 2 else 6 := by split <;> omega
  rw [readExcluded, hbit]

/-- The division of an auxiliary function, clamped to 15 (R222). -/
theorem auxDivision_eq (d : Byte) :
    (BitVec.ofNat 4 (min d.toNat 15) : Division) = if 15 < d.toNat then 15#4 else d.setWidth 4 := by
  split
  · rw [Nat.min_eq_right (by omega)]
  · rw [Nat.min_eq_left (by omega)]
    exact BitVec.eq_of_toNat_eq (by simp)

theorem readConfig_piston (z : Straps) (b : ConfigBlock) (i : Fin 16) : (readConfig z b).pistons[i] =
    if pistonScope b i = 1#2 then some (.general (pistonNumber b i))
    else if pistonScope b i = 2#2 then some (.divisional (pistonDivision b i) (pistonNumber b i))
    else none := getElem_table_fin (readPiston b) i

theorem readConfig_excluded (z : Straps) (b : ConfigBlock) (n : StopNo) : (readConfig z b).excluded[n] =
    (b[64 + n.val / 2]'(by omega)).getLsbD (if n.val % 2 = 0 then 2 else 6) :=
  (getElem_table_fin (readExcluded b) n).trans (readExcluded_eq b n)

theorem readConfig_aux (z : Straps) (b : ConfigBlock) (j : Fin 8) : (readConfig z b).aux[j] = readAux b j :=
  getElem_table_fin (readAux b) j

/-- The shoe items as they are read (R107, R220, R222). -/
theorem readShoe_fields (b : ConfigBlock) :
    (readShoe b).heel =
        (if 1023 < (b[6]).toNat * 256 + (b[7]).toNat then 1023 else (b[6]).toNat * 256 + (b[7]).toNat) ∧
      (readShoe b).toe =
        (if 1023 < (b[8]).toNat * 256 + (b[9]).toNat then 1023 else (b[8]).toNat * 256 + (b[9]).toNat) ∧
      (readShoe b).heelBand = (if 63 < (b[10]).toNat then 63 else (b[10]).toNat) ∧
      (readShoe b).toeBand = (if 63 < (b[11]).toNat then 63 else (b[11]).toNat) ∧
      (readShoe b).filter = (if 4 < (b[12]).toNat then 4 else (b[12]).toNat) ∧
      (readShoe b).stages = (if (b[13]).toNat = 0 then 1 else if 31 < (b[13]).toNat then 31 else (b[13]).toNat) ∧
      (readShoe b).hysteresis =
        (let h := if 63 < (b[14]).toNat then 63 else (b[14]).toNat
         if 1024 / ((readShoe b).stages + 1) - 1 < h then 1024 / ((readShoe b).stages + 1) - 1 else h) ∧
      (readShoe b).follower = (if 15 < (b[15]).toNat then 15 else (b[15]).toNat) := by
  refine ⟨min_eq_ite _ _, min_eq_ite _ _, min_eq_ite _ _, min_eq_ite _ _, min_eq_ite _ _,
    clampTo_one 31 _ (by decide), ?_, min_eq_ite _ _⟩
  show min (min (b[14]).toNat 63) (1024 / ((readShoe b).stages + 1) - 1) = _
  rw [min_eq_ite, min_eq_ite (b[14]).toNat]

/-! ### POWER_ON -/

/-- What POWER_ON starts from, at a node without its supply (R223). -/
def State.supplied (s : State) (z : Straps) : State :=
  { s with pins := { s.pins with straps := z, supplyGood := true }, outputs := Outputs.initial }

theorem exec_powerOn_of_unpowered (hn : s.node = .unpowered) :
    exec (.powerOn z) s = .next (beginStart .power (s.supplied z)) := by
  have hp : s.powered = false := by rw [State.powered, hn]; rfl
  rw [exec_powerOn, execPowerOn]
  exact congrArg (fun t : State => Host.Outcome.next (beginStart .power
    { t with pins := { s.pins with straps := z, supplyGood := true }, outputs := Outputs.initial })) (if_neg (by simp [hp]))

/-- Settles O16. -/
theorem powerOnTakesTheValuesAfterStart : Obligations.PowerOnTakesTheValuesAfterStart := by
  refine ⟨fun z b => ⟨configFault_iff, configAtStart_of_sound, rfl, clampTo_eq (by decide) _, clampTo_eq (by decide) _,
    clampTo_one 16 _ (by decide), clampTo_one 48 _ (by decide), rfl, rfl, readConfig_excluded z b,
    readConfig_piston z b, fun j => ?aux, fun hz => ?noHost, fun hz => ?host⟩,
    fun z s hn hs => ⟨fun hr => ?held, fun y ys hr hy => ?started⟩⟩
  case aux =>
    rw [readConfig_aux, ← auxDivision_eq]
    unfold readAux
    generalize (b[48 + 2 * j.val]'(by omega)).toNat = code
    rfl
  case noHost => exact if_neg (by simp [hz])
  case host => exact ⟨readShoe b, if_pos hz, readShoe_fields b⟩
  case held =>
    rw [exec_powerOn_of_unpowered hn, beginStart_of_active (s := s.supplied z) .power hr]
    exact ⟨_, rfl, rfl, rfl, rfl, rfl, rfl, rfl, rfl, rfl⟩
  case started =>
    rw [exec_powerOn_of_unpowered hn, beginStart_of_idle (s := s.supplied z) .power hr hs hy]
    simp only [State.supplied, hr]

/-! ### SUPPLY_LOST -/

/-- The record whose write is cut short fails its check (R35, R49). -/
theorem torn_unbalanced (r : Record) (next : Nat) : (r.torn next).bytes.toList.sum + (r.torn next).check ≠ 0#8 := by
  unfold Record.torn
  dsimp only
  generalize (table fun k => Config.freeByte (next + k.val) : EntryBytes) = bytes
  generalize Config.freeByte (next + 16) = off
  rw [← BitVec.add_assoc, balanced]
  split
  · decide
  · rename_i h
    rwa [BitVec.zero_add]

theorem torn_written (r : Record) (source : Source) (next : Nat) : ((r.begun source).torn next).written = true := rfl

theorem damaged_of_unbalanced {r : Record} (hw : r.written = true) (h : r.bytes.toList.sum + r.check ≠ 0#8) :
    r.damaged = true := by
  have hcheck : passesCheck r.bytes r.check = false := beq_eq_false_iff_ne.2 h
  rw [Record.damaged, hw, hcheck]
  rfl

theorem tearRecord_of_writing {e : WriteEntry} {ws : List WriteEntry} (hs : s.store.stage ≠ none)
    (hws : s.store.writes = e :: ws) : tearRecord s = { s with
      store := { s.store with
        array := s.store.array.write e.index (((s.store.array.read e.index).begun e.source).torn s.freeNext) }
      freeNext := s.freeNext + 17 } := by
  obtain ⟨stage, hstage⟩ := Option.ne_none_iff_exists'.1 hs
  rw [tearRecord, hstage, hws]

theorem tearRecord_of_idle (hs : s.store.stage = none) : tearRecord s = s := by
  rw [tearRecord, hs]

theorem tearRecord_of_empty (hws : s.store.writes = []) : tearRecord s = s := by
  rw [tearRecord, hws]
  split
  · contradiction
  · rfl

/-- Only the record being written is changed. -/
theorem tearRecord_read_other {i : Nat}
    (hi : ∀ e ws, s.store.stage ≠ none → s.store.writes = e :: ws → i ≠ e.index) :
    (tearRecord s).store.array.read i = s.store.array.read i := by
  by_cases hs : s.store.stage = none
  · rw [tearRecord_of_idle hs]
  · cases hws : s.store.writes with
    | nil => rw [tearRecord_of_empty hws]
    | cons e ws =>
      rw [tearRecord_of_writing hs hws]
      exact Memory.read_write_elsewhere _ _ (hi e ws hs hws)

theorem tearRecord_read_same {e : WriteEntry} {ws : List WriteEntry} (hs : s.store.stage ≠ none)
    (hws : s.store.writes = e :: ws) (hwf : s.store.array.wf = true) : (tearRecord s).store.array.read e.index =
      ((s.store.array.read e.index).begun e.source).torn s.freeNext := by
  rw [tearRecord_of_writing hs hws]
  exact Memory.read_write_same _ _ hwf

/-- One byte of a block that balances, raised by 1, leaves a block that does not. -/
theorem unbalanced_of_raised {b : ConfigBlock} (h : b.toList.sum = 0#8) (k : Fin 128) :
    (b.set k.val (b[k] + 1#8)).toList.sum ≠ 0#8 := by
  have hlen : k.val < b.toList.length := by simp
  have hset : (b.set k.val (b[k] + 1#8)).toList = b.toList.set k.val (b.toList[k.val] + 1#8) := by
    simp only [Vector.toList_set, Vector.getElem_toList]
    rfl
  rw [hset, List.sum_set', h, dif_pos hlen]
  generalize b.toList[k.val] = x
  bv_omega

/-- A block part way written: outside the range it stays, and it fails its check (R216). -/
theorem tornBlock_spec {b : ConfigBlock} {offset count next : Nat} (hc : 0 < count) (hr : offset + count ≤ 128) :
    blockBalances (tornBlock b offset count next) = false ∧
      ∀ k : Fin 128, (k.val < offset ∨ offset + count ≤ k.val) → (tornBlock b offset count next)[k] = b[k] := by
  have hfree : ∀ k : Fin 128, (k.val < offset ∨ offset + count ≤ k.val) → (table fun k : Fin 128 =>
      if offset ≤ k.val ∧ k.val < offset + count then Config.freeByte (next + k.val) else b[k])[k] = b[k] := by
    intro k hk
    rw [getElem_table_fin, if_neg (by omega)]
  unfold tornBlock
  dsimp only
  generalize (table fun k : Fin 128 =>
    if offset ≤ k.val ∧ k.val < offset + count then Config.freeByte (next + k.val) else b[k]) = free at hfree ⊢
  split
  · rename_i hsum
    have hset : (table fun k : Fin 128 => if k.val = offset then free[k] + 1#8 else free[k]) =
        free.set offset (free[offset] + 1#8) := by
      refine Vector.ext fun i hi => ?_
      rw [getElem_table, Vector.getElem_set]
      by_cases hio : i = offset
      · subst hio
        simp
      · rw [if_neg hio, if_neg (Ne.symm hio)]
        rfl
    refine ⟨blockBalances_eq_false.2 ?_, fun k hk => ?_⟩
    · rw [hset]
      exact unbalanced_of_raised hsum ⟨offset, by omega⟩
    · rw [getElem_table_fin, if_neg (by omega), hfree k hk]
  · rename_i hsum
    exact ⟨blockBalances_eq_false.2 hsum, hfree⟩

theorem tearBlock_of_sealed (h : s.blockWrite = none) : tearBlock s = s := by
  rw [tearBlock, h]

theorem tearBlock_block {offset count : Nat} (h : s.blockWrite = some (offset, count)) :
    (tearBlock s).block = s.block ∨ ∃ next, (tearBlock s).block = tornBlock s.block offset count next := by
  rw [tearBlock, h]
  dsimp only
  split
  · exact .inl rfl
  · exact .inr ⟨_, rfl⟩

theorem tearBlock_store (s : State) : (tearBlock s).store = s.store := by
  obtain ⟨_, _, _, hframe⟩ := tearBlock_frame s
  rw [hframe]

/-- The array and the block a lost supply leaves. -/
theorem loseSupply_array (s : State) : (loseSupply s).store.array = (tearRecord s).store.array := by
  show (tearBlock (tearRecord s)).store.array = _
  rw [tearBlock_store]

theorem loseSupply_block (s : State) : (loseSupply s).block = (tearBlock (tearRecord s)).block := rfl

theorem loseSupply_locks (s : State) : (loseSupply s).store.locks = s.store.locks := by
  have hrecord : (tearRecord s).store.locks = s.store.locks := by
    unfold tearRecord
    split <;> rfl
  show (tearBlock (tearRecord s)).store.locks = _
  rw [tearBlock_store, hrecord]

/-- A record cut short leaves the block and an open CONFIG-WRITE alone. -/
theorem tearRecord_block (s : State) : (tearRecord s).block = s.block ∧ (tearRecord s).blockWrite = s.blockWrite := by
  obtain ⟨_, _, hframe⟩ := tearRecord_frame s
  rw [hframe]
  exact ⟨rfl, rfl⟩

/-- Settles O24. -/
theorem supplyLostKeepsNonvolatileMemory : Obligations.SupplyLostKeepsNonvolatileMemory := by
  intro s hp hwf
  obtain ⟨hblock, hopen⟩ := tearRecord_block s
  refine ⟨loseSupply s, congrArg Host.Outcome.next (if_pos hp), rfl, rfl, rfl, rfl, rfl, rfl, rfl, rfl, rfl, rfl,
    loseSupply_locks s, fun i hi => ?other, fun e ws hs hws => ?torn, fun hnone => ?sealed,
    fun offset count hsome hc hr => ?opened⟩
  case other => rw [loseSupply_array, tearRecord_read_other hi]
  case torn =>
    rw [loseSupply_array, tearRecord_read_same hs hws hwf]
    exact ⟨rfl, damaged_of_unbalanced rfl (torn_unbalanced _ _), torn_unbalanced _ _⟩
  case sealed => rw [loseSupply_block, tearBlock_of_sealed (hopen.trans hnone), hblock]
  case opened =>
    rw [loseSupply_block]
    rcases tearBlock_block (hopen.trans hsome) with hkept | ⟨next, htorn⟩
    · rw [hkept, hblock]
      exact ⟨.inl rfl, fun _ _ => rfl⟩
    · rw [htorn, hblock]
      obtain ⟨hfails, houtside⟩ := tornBlock_spec (b := s.block) (next := next) hc hr
      exact ⟨.inr hfails, houtside⟩

end

end Sys2Proof.Machine
end

section
/-! PROOF. The entry to RUNNING and to HAND_ONLY (O19, O20). -/

namespace Sys2Proof.Machine

section
variable {s : State}

/-! ### The knobs and the speaking set -/

/-- The stops loaded from the knobs below S (R225, R226). -/
abbrev State.knobsLoaded (s : State) (d : StopSet) : Prop :=
  ∀ n : StopNo, d[n] = (decide (n.val < s.config.stops) && (s.scanner.stops[n]).value)

/-- A resolver with a drawn image and the speaking set R6 gives from it. -/
def Resolver.entered (r : Resolver) (d : StopSet) (stops : Nat) : Resolver :=
  { r with drawn := d, speaking := { r with drawn := d }.speaks stops }

theorem Resolver.entered_speaking (r : Resolver) (d : StopSet) (stops : Nat) :
    (r.entered d stops).speaking = (r.entered d stops).speaks stops :=
  (Resolver.speaks_withSpeaking { r with drawn := d } ({ r with drawn := d }.speaks stops) stops).symm

theorem Resolver.entered_frame (r : Resolver) (d : StopSet) (stops : Nat) : r.entered d stops =
    { r with drawn := (r.entered d stops).drawn, speaking := (r.entered d stops).speaking } := rfl

/-- Without crescendo and tutti the drawn stops speak (R6). -/
theorem entered_speaking_of_initial {d : StopSet} (hd : s.knobsLoaded d) (hr : s.resolver = Resolver.initial) :
    (s.resolver.entered d s.config.stops).speaking = d := by
  refine Vector.ext fun i hi => ?_
  have hloaded : d[i] = (decide (i < s.config.stops) && (s.scanner.stops[i]).value) := hd ⟨i, hi⟩
  have hquiet : (StopSet.empty)[i] = false := getElem_empty ⟨i, hi⟩
  have hspeaks : (s.resolver.entered d s.config.stops).speaking[i] =
      (decide (i < s.config.stops) && (d[i] || (StopSet.empty)[i])) := by
    rw [hr]
    exact getElem_table _ i hi
  rw [hspeaks, hquiet, hloaded]
  cases decide (i < s.config.stops) <;> simp

/-- The refresh and the shift at the entry: the chain shifts the new speaking set (R189). -/
theorem startShift_refreshSpeaking (hd : s.outputs.dirty = true) (hi : s.outputs.shift = none) (hl : s.live = true) :
    startShift (refreshSpeaking s) = { s with
      resolver := { s.resolver with speaking := s.resolver.speaks s.config.stops }
      outputs := { s.outputs with dirty := false, shift := some (s.resolver.speaks s.config.stops) } } := by
  unfold refreshSpeaking
  dsimp only
  generalize s.resolver.speaks s.config.stops = x
  split
  · rename_i h
    rw [startShift_of_dirty hd hi hl, h]
  · have hshift : startShift { s with
        resolver := { s.resolver with speaking := x }, outputs := { s.outputs with dirty := true } } = { s with
        resolver := { s.resolver with speaking := x }
        outputs := { s.outputs with dirty := false, shift := some x } } := startShift_of_dirty rfl hi hl
    rw [hshift]
    exact startShift_of_clean rfl

/-- The state with a resolver, its speaking set being shifted. -/
def State.shifting (s : State) (r : Resolver) : State :=
  { s with resolver := r, outputs := { s.outputs with dirty := false, shift := some r.speaking } }

/-- The knobs loaded at the entry, and their speaking set shifted at once (R225, R226). -/
theorem startShift_loadDrawn (hd : s.outputs.dirty = true) (hi : s.outputs.shift = none) (hl : s.live = true) :
    ∃ d, s.knobsLoaded d ∧
      startShift (refreshSpeaking (loadDrawn s)) = s.shifting (s.resolver.entered d s.config.stops) := by
  obtain ⟨d, hloaded, e⟩ := loadDrawn_eq s
  refine ⟨d, hloaded, ?_⟩
  have hshift := startShift_refreshSpeaking (s := { s with resolver := { s.resolver with drawn := d } }) hd hi hl
  rw [e, hshift]
  rfl

/-! ### The first frames of the queue -/

/-- The FAULT-NOTE of an entry waits alone in the queue (R199). -/
theorem noteCall_of_initial (hlink : s.link = Link.initial) (h : s.faults.notePending = false) : noteCall s = { s with
    link := ⟨.seeking, none, [⟨.faultNote, 0, false, false⟩], 1⟩
    faults := { s.faults with notePending := false, retryDue := false } } := by
  have hline : (setNotePending false s).link.line ≠ .idle := by
    show s.link.line ≠ .idle
    simp [hlink, Link.initial]
  rw [noteCall_of_place h (by rw [hlink]; rfl) (by rw [hlink]; rfl), joinQueue_of_line hline]
  simp only [setNotePending, hlink]
  rfl

/-- A second call finds the FAULT-NOTE waiting, and leaves it there (R184, R199). -/
theorem noteCall_noteCall_of_initial (hlink : s.link = Link.initial) (h : s.faults.notePending = false) :
    noteCall (noteCall s) = noteCall s := by
  rw [noteCall_of_initial hlink h]
  generalize hu : ({ s with
    link := ⟨.seeking, none, [⟨.faultNote, 0, false, false⟩], 1⟩
    faults := { s.faults with notePending := false, retryDue := false } } : State) = u
  have hheld : noteCall u = setNotePending false { u with link := { u.link with queue := mergeNote u.link.queue } } :=
    noteCall_of_held (by rw [← hu]) (by rw [← hu]; rfl)
  rw [hheld, ← hu]
  rfl

/-- The SHOE of a first sample, and the FAULT-NOTE after it (R110, R181, R199). -/
theorem noteCall_offerShoe_of_initial (hlink : s.link = Link.initial) (h : s.faults.notePending = false) :
    ∃ q, noteCall (offerShoe s) = { s with
        link := ⟨.seeking, none, q, 2⟩
        faults := { s.faults with notePending := false, retryDue := false } } ∧
      holdsNote q = true ∧
      ∃ e ∈ q, e.body = .shoe s.straps.division (lowByte s.shoe.program) (lowByte s.shoe.displayed) := by
  have hline : s.link.line ≠ .idle := by simp [hlink, Link.initial]
  have hshoe : offerShoe s = { s with link := ⟨.seeking, none,
      [⟨.shoe s.straps.division (lowByte s.shoe.program) (lowByte s.shoe.displayed), 0, false, false⟩], 1⟩ } := by
    rw [offerShoe, offer_shoe, if_neg (by rw [hlink]; decide), if_pos (by rw [hlink]; rfl), joinQueue_of_line hline, hlink]
    rfl
  rw [hshoe]
  generalize lowByte s.shoe.program = p, lowByte s.shoe.displayed = k
  rw [noteCall_of_place (s := { s with
    link := ⟨.seeking, none, [⟨.shoe s.straps.division p k, 0, false, false⟩], 1⟩ }) h rfl rfl,
    joinQueue_of_line (by simp [setNotePending])]
  refine ⟨insertEntry ⟨.faultNote, 1, false, false⟩ [⟨.shoe s.straps.division p k, 0, false, false⟩], rfl,
    holdsNote_of_mem ((insertEntry_perm _ _).mem_iff.2 List.mem_cons_self) rfl,
    _, (insertEntry_perm _ _).mem_iff.2 (List.mem_cons_of_mem _ List.mem_cons_self), rfl⟩

/-! ### The shoe unit at the entry -/

/-- What the entry to RUNNING leaves of the link, the fault set and the shoe unit (R108, R110, R199, R225). -/
theorem noteCall_enterShoe (x : Nat) (hl : s.live = true) (hlink : s.link = Link.initial) (hf : s.faults.flags = 0#10)
    (hp : s.faults.notePending = false) : ∃ link faults shoe,
      noteCall (enterShoe x s) = { s with link := link, faults := faults, shoe := shoe } ∧
      holdsNote link.queue = true ∧ link.line = .seeking ∧
      (∀ c, s.isHost = true → s.config.shoe = some c → c.calibrated = true → faults.flags = 0#10 ∧
        (∃ e ∈ link.queue, e.body = .shoe s.straps.division (lowByte s.shoe.program)
          (lowByte (c.reachedStage (c.normalized x)))) ∧
        shoe = { s.shoe with
          unit := .active, filter := some (16 * x), reading := some x, position := some (c.normalized x),
          target := c.reachedStage (c.normalized x), displayed := c.reachedStage (c.normalized x),
          firstDone := true, follower := none, refresh := some 500 }) ∧
      (∀ c, s.isHost = true → s.config.shoe = some c → c.calibrated = false →
        faults.flags = Flag.mask .config ∧ holdsShoe link.queue = false ∧ shoe = { s.shoe with unit := .off }) ∧
      (s.isHost = false → faults.flags = 0#10 ∧ holdsShoe link.queue = false ∧ shoe = s.shoe) := by
  have hquiet : noteCall s = { s with
      link := ⟨.seeking, none, [⟨.faultNote, 0, false, false⟩], 1⟩
      faults := { s.faults with notePending := false, retryDue := false } } := noteCall_of_initial hlink hp
  cases hhost : s.isHost
  case false =>
    have henter : enterShoe x s = s := by rw [enterShoe, hhost]
    rw [henter, hquiet]
    exact ⟨_, _, _, rfl, rfl, rfl, nofun, nofun, fun _ => ⟨hf, rfl, rfl⟩⟩
  case true =>
    cases hc : s.config.shoe with
    | none =>
      have henter : enterShoe x s = s := by rw [enterShoe, hhost, hc]
      rw [henter, hquiet]
      exact ⟨_, _, _, rfl, rfl, rfl, nofun, nofun, nofun⟩
    | some c =>
      cases hcal : c.calibrated
      case true =>
        have henter : enterShoe x s = firstSample c x { s with shoe := { s.shoe with unit := .active } } := by
          rw [enterShoe, hhost, hc]
          exact if_pos hcal
        rw [henter, firstSample]
        dsimp only
        rw [filtered_mul]
        generalize hshoe : ({ s.shoe with
          unit := .active, filter := some (16 * x), reading := some x, position := some (c.normalized x),
          target := c.reachedStage (c.normalized x), displayed := c.reachedStage (c.normalized x),
          firstDone := true, follower := none, refresh := some 500 } : Shoe) = sh
        obtain ⟨q, e, hnote, hmem⟩ := noteCall_offerShoe_of_initial (s := { s with shoe := sh }) hlink hp
        refine ⟨_, _, _, e, hnote, rfl, fun c' _ hc' _ => ?_, fun c' _ hc' hcal' => ?_, nofun⟩
        · obtain rfl : c = c' := Option.some.inj hc'
          subst hshoe
          exact ⟨hf, hmem, rfl⟩
        · obtain rfl : c = c' := Option.some.inj hc'
          rw [hcal] at hcal'
          cases hcal'
      case false =>
        have henter : enterShoe x s = setFlag .config { s with shoe := { s.shoe with unit := .off } } := by
          rw [enterShoe, hhost, hc]
          exact if_neg (by simp [hcal])
        have hnew : s.faults.has .config = false := by simp [Faults.has, hf]
        have hraised : setFlag .config { s with shoe := { s.shoe with unit := .off } } =
            noteCall (raiseFlag .config { s with shoe := { s.shoe with unit := .off } }) := setFlag_of_new hl hnew
        have hcalled := noteCall_noteCall_of_initial
          (s := raiseFlag .config { s with shoe := { s.shoe with unit := .off } }) hlink hp
        have hnoted := noteCall_of_initial
          (s := raiseFlag .config { s with shoe := { s.shoe with unit := .off } }) hlink hp
        rw [henter, hraised, hcalled, hnoted]
        refine ⟨_, _, _, rfl, rfl, rfl, fun c' _ hc' hcal' => ?_, fun c' _ _ _ => ⟨?_, rfl, rfl⟩, nofun⟩
        · obtain rfl : c = c' := Option.some.inj hc'
          rw [hcal] at hcal'
          cases hcal'
        · show s.faults.flags ||| Flag.mask .config = _
          rw [hf]
          decide

/-! ### The statements -/

/-- Settles O19. -/
theorem enterRunningLoadsTheKnobs : Obligations.EnterRunningLoadsTheKnobs := by
  intro x s hn hsupply hx hlink hdirty hshift hf hp
  obtain ⟨d, hd, hentered⟩ := startShift_loadDrawn (s := { s with node := .running }) hdirty hshift rfl
  obtain ⟨link, faults, shoe, e, hnote, hline, hcalibrated, huncalibrated, hnone⟩ := noteCall_enterShoe x
    (s := { s with node := .running }.shifting (s.resolver.entered d s.config.stops)) rfl hlink hf hp
  have hexec : exec (.enterRunning x) s =
      .next (noteCall (enterShoe x (startShift (refreshSpeaking (loadDrawn { s with node := .running }))))) := by
    rw [exec_enterRunning]
    exact if_pos ⟨hn, hsupply, hx⟩
  rw [hexec, hentered, e]
  exact ⟨_, rfl, rfl, hd, s.resolver.entered_speaking d s.config.stops, entered_speaking_of_initial hd,
    s.resolver.entered_frame d s.config.stops, rfl, hnote, hline, hcalibrated, huncalibrated, hnone⟩

theorem cut_initial : Sequencer.initial.cut = Sequencer.initial :=
  congrArg (fun m => { Sequencer.initial with motions := m }) (Vector.map_replicate (n := 64))

/-- Settles O20. -/
theorem enterHandOnlyPlaysByHand : Obligations.EnterHandOnlyPlaysByHand := by
  refine ⟨fun z b h => ?_, fun s hn hsupply hlink hdirty hshift hp hseq => ?_⟩
  · rw [configAtStart_of_fault h]
    exact ⟨rfl, rfl⟩
  · have hexec : exec .enterHandOnly s = .next (noteCall (startShift (refreshSpeaking (loadDrawn { s with
        node := .handOnly, outputs := { s.outputs with serviceBlink := some (true, 500) } })))) := by
      have hcut : s.sequencer.cut = s.sequencer := by rw [hseq, cut_initial]
      rw [exec_enterHandOnly, execEnterHandOnly, if_pos ⟨hn, hsupply⟩, hcut]
    obtain ⟨d, hd, hentered⟩ := startShift_loadDrawn (s := { s with
      node := .handOnly, outputs := { s.outputs with serviceBlink := some (true, 500) } }) hdirty hshift rfl
    have hnoted := noteCall_of_initial (s := { s with
      node := .handOnly, outputs := { s.outputs with serviceBlink := some (true, 500) } }.shifting
        (s.resolver.entered d s.config.stops)) hlink hp
    have hfaults : { s.faults with notePending := false, retryDue := false } = { s.faults with retryDue := false } :=
      congrArg (fun p => { s.faults with notePending := p, retryDue := false }) hp.symm
    have hspeaks := s.resolver.entered_speaking d s.config.stops
    rw [hexec, hentered, hnoted]
    refine ⟨_, rfl, ?_, hd, ?_, fun hall n => ?_, entered_speaking_of_initial hd, rfl, rfl, rfl⟩
    · exact congrArg (fun f => { s with
        node := .handOnly, link := ⟨.seeking, none, [⟨.faultNote, 0, false, false⟩], 1⟩
        resolver := s.resolver.entered d s.config.stops
        outputs := { s.outputs with
          dirty := false, shift := some (s.resolver.entered d s.config.stops).speaking, serviceBlink := some (true, 500) }
        faults := f }) hfaults
    · show s.resolver.entered d s.config.stops = { s.resolver with
        drawn := d, speaking := (s.resolver.entered d s.config.stops).speaks s.config.stops }
      rw [← hspeaks]
      rfl
    · have hn : n.val < s.config.stops := by omega
      exact (hd n).trans (by simp only [hn, decide_true, Bool.true_and])

end

end Sys2Proof.Machine
end

section
/-! PROOF. A frame on the line: its runs, and its bits read back (O5, O6). -/

namespace Sys2Proof.Machine

/-! ### Runs -/

/-- Pushing the bits keeps every run at 8 or less. -/
def BitRun.Bounded (r : BitRun) : List Bool → Prop
  | [] => True
  | b :: bs => (r.push b).length ≤ 8 ∧ (r.push b).Bounded bs

theorem BitRun.push_last (r : BitRun) (b : Bool) : (r.push b).last = b := by
  unfold BitRun.push
  split <;> rfl

theorem BitRun.push_length_pos (r : BitRun) (b : Bool) : 0 < (r.push b).length := by
  unfold BitRun.push
  split
  · exact Nat.succ_pos _
  · exact Nat.one_pos

theorem BitRun.push_length_le (r : BitRun) (b : Bool) : (r.push b).length ≤ r.length + 1 := by
  unfold BitRun.push
  split
  · exact Nat.le_refl _
  · exact Nat.succ_le_succ (Nat.zero_le _)

theorem BitRun.push_same {r : BitRun} (h : 0 < r.length) : r.push r.last = ⟨r.last, r.length + 1⟩ := if_pos ⟨rfl, h⟩

theorem BitRun.push_other (r : BitRun) : r.push (!r.last) = ⟨!r.last, 1⟩ := if_neg (by simp)

theorem BitRun.bounded_append {l m : List Bool} {r : BitRun} (h : r.Bounded (l ++ m)) :
    (l.foldl BitRun.push r).Bounded m := by
  induction l generalizing r with
  | nil => exact h
  | cons b l ih => exact ih h.2

theorem BitRun.bounded_of_append {l m : List Bool} {r : BitRun} (h : r.Bounded (l ++ m)) : r.Bounded l := by
  induction l generalizing r with
  | nil => trivial
  | cons b l ih => exact ⟨h.1, ih h.2⟩

/-- A run goes on through equal bits. -/
theorem BitRun.bounded_replicate {k : Nat} {r : BitRun} (hpos : 0 < r.length) (hr : r.length ≤ 8)
    (h : r.Bounded (List.replicate k r.last)) : r.length + k ≤ 8 := by
  induction k generalizing r with
  | zero => exact hr
  | succ k ih =>
    obtain ⟨hlength, hrest⟩ := h
    rw [BitRun.push_same hpos] at hlength hrest
    have := ih (Nat.succ_pos _) hlength hrest
    dsimp only at this
    omega

/-- Bits that keep every run bounded hold no nine equal bits in a row. -/
theorem BitRun.not_nine_equal {r : BitRun} {l : List Bool} (h : r.Bounded l) (b : Bool) :
    ¬ List.replicate 9 b <:+: l := by
  rintro ⟨before, after, rfl⟩
  rw [List.append_assoc] at h
  obtain ⟨hfirst, hrest⟩ := BitRun.bounded_of_append (BitRun.bounded_append h)
  generalize hq : (before.foldl BitRun.push r).push b = q at hfirst hrest
  have hlast : q.last = b := hq ▸ BitRun.push_last _ b
  have hpos : 0 < q.length := hq ▸ BitRun.push_length_pos _ b
  have hrun : q.length + 8 ≤ 8 := BitRun.bounded_replicate hpos hfirst (hlast ▸ hrest)
  omega

/-- Stuffing keeps every run at 8 or less (R165). -/
theorem bounded_stuffFrom {r : BitRun} (h : r.length ≤ 8) (bits : List Bool) : r.Bounded (stuffFrom r bits) := by
  induction bits generalizing r with
  | nil =>
    rw [stuffFrom]
    split
    · exact ⟨(congrArg BitRun.length r.push_other).trans_le (by decide : 1 ≤ 8), trivial⟩
    · trivial
  | cons b bits ih =>
    rw [stuffFrom]
    split
    · have hshort : ((BitRun.mk (!r.last) 1).push b).length ≤ 8 := (BitRun.push_length_le _ b).trans (by decide : 1 + 1 ≤ 8)
      refine ⟨(congrArg BitRun.length r.push_other).trans_le (by decide : 1 ≤ 8), ?_⟩
      rw [BitRun.push_other]
      exact ⟨hshort, ih hshort⟩
    · have hgrown : (r.push b).length ≤ 8 := (BitRun.push_length_le r b).trans (by omega)
      exact ⟨hgrown, ih hgrown⟩

/-! ### Lengths -/

theorem length_msbFirst (k n : Nat) : (msbFirst k n).length = k := by
  induction k with
  | zero => rfl
  | succ k ih => rw [msbFirst, List.length_cons, ih]

/-- The bits of the payload (R164). -/
def payloadBits (payload : List Byte) : List Bool := payload.flatMap fun b => msbFirst 8 b.toNat

theorem length_payloadBits (payload : List Byte) : (payloadBits payload).length = 8 * payload.length := by
  induction payload with
  | nil => rfl
  | cons b payload ih =>
    rw [payloadBits, List.flatMap_cons, List.length_append, length_msbFirst, List.length_cons]
    rw [payloadBits] at ih
    omega

/-- Class, address, kind and length, before the payload (R164). -/
def headerBits (f : RawFrame) : List Bool :=
  msbFirst 3 f.cls.toNat ++ msbFirst 6 f.sender.toNat ++ msbFirst 5 f.kind.toNat ++ msbFirst 4 f.payload.length

theorem frameFields_eq (f : RawFrame) : frameFields f = headerBits f ++ payloadBits f.payload := rfl

theorem length_headerBits (f : RawFrame) : (headerBits f).length = 18 := by
  simp only [headerBits, List.length_append, length_msbFirst]

/-- Settles O6. -/
theorem stuffingBreaksEveryRun : Obligations.StuffingBreaksEveryRun := by
  refine fun f => ⟨BitRun.not_nine_equal (bounded_stuffFrom (by decide) _), ?_⟩
  have hend : endField.length = 8 := rfl
  rw [bareFrame, List.length_cons, List.length_append, frameFields_eq, List.length_append, length_headerBits,
    length_payloadBits, length_msbFirst, hend]
  omega

/-! ### Numbers and their bits -/

theorem foldl_msbFirst (k n a : Nat) :
    (msbFirst k n).foldl (fun n b => 2 * n + b.toNat) a = a * 2 ^ k + n % 2 ^ k := by
  induction k generalizing a with
  | zero => simp [msbFirst, Nat.mod_one]
  | succ k ih =>
    rw [msbFirst, List.foldl_cons, ih, Nat.mod_pow_succ, Nat.toNat_testBit]
    ring

theorem ofMsbFirst_msbFirst {k n : Nat} (h : n < 2 ^ k) : ofMsbFirst (msbFirst k n) = n := by
  rw [ofMsbFirst, foldl_msbFirst, Nat.zero_mul, Nat.zero_add, Nat.mod_eq_of_lt h]

theorem ofNat_ofMsbFirst {w : Nat} (x : BitVec w) : BitVec.ofNat w (ofMsbFirst (msbFirst w x.toNat)) = x := by
  rw [ofMsbFirst_msbFirst x.isLt, BitVec.ofNat_toNat, BitVec.setWidth_eq]

theorem bytesOfBits_payloadBits (payload : List Byte) : bytesOfBits payload.length (payloadBits payload) = payload := by
  induction payload with
  | nil => rfl
  | cons b payload ih =>
    have hsplit : payloadBits (b :: payload) = msbFirst 8 b.toNat ++ payloadBits payload := List.flatMap_cons
    rw [List.length_cons, bytesOfBits, hsplit, List.take_left' (length_msbFirst 8 _),
      List.drop_left' (length_msbFirst 8 _), ih, ofNat_ofMsbFirst]

/-! ### Reading stuffed bits -/

/-- The run after some bits and their stuff bits (R165). -/
def BitRun.after (r : BitRun) : List Bool → BitRun
  | [] => r
  | b :: bs => if r.length = 8 then ((BitRun.mk (!r.last) 1).push b).after bs else (r.push b).after bs

theorem readBits_of_stuff {n : Nat} {r : BitRun} {b c : Bool} {line : List Bool} (h : r.length = 8) (hb : b ≠ r.last) :
    readBits (n + 1) r (b :: c :: line) = (readBits n ((BitRun.mk b 1).push c) line).cons c :=
  (if_pos h).trans (if_neg hb)

theorem readBits_of_free {n : Nat} {r : BitRun} {b : Bool} {line : List Bool} (h : r.length ≠ 8) :
    readBits (n + 1) r (b :: line) = (readBits n (r.push b) line).cons b := if_neg h

/-- A receiver takes off the stuff bits a sender put in (R165, R175). -/
theorem readBits_stuffFrom (l m line : List Bool) (r : BitRun) :
    readBits l.length r (stuffFrom r (l ++ m) ++ line) = .got l (r.after l) (stuffFrom (r.after l) m ++ line) := by
  induction l generalizing r with
  | nil => rfl
  | cons b l ih =>
    rw [List.cons_append, stuffFrom, BitRun.after, List.length_cons]
    split
    · rename_i hfull
      have hstuff : (!r.last) ≠ r.last := by simp
      rw [List.cons_append, List.cons_append, readBits_of_stuff hfull hstuff]
      exact congrArg (BitsRead.cons b) (ih _)
    · rename_i hfree
      rw [List.cons_append, readBits_of_free hfree]
      exact congrArg (BitsRead.cons b) (ih _)

/-- The stuff bit after the last check bit (R165). -/
theorem readLastStuff_stuffFrom (line : List Bool) (r : BitRun) :
    ∃ run, readLastStuff r (stuffFrom r [] ++ line) = .got [] run line := by
  rw [stuffFrom]
  split
  · rename_i hfull
    have hstuff : (!r.last) ≠ r.last := by simp
    exact ⟨_, (if_pos hfull).trans (if_neg hstuff)⟩
  · rename_i hfree
    exact ⟨r, if_neg hfree⟩

/-! ### Assembly -/

/-- The fields of a frame are read back from their places (R164). -/
theorem frameOfBits_headerBits (f : RawFrame) :
    frameOfBits (headerBits f) f.payload.length (payloadBits f.payload) = f := by
  have hcls : (headerBits f).take 3 = msbFirst 3 f.cls.toNat := by
    simp only [headerBits, List.append_assoc, List.take_left' (length_msbFirst 3 _)]
  have hsender : ((headerBits f).drop 3).take 6 = msbFirst 6 f.sender.toNat := by
    simp only [headerBits, List.append_assoc, List.drop_left' (length_msbFirst 3 _), List.take_left' (length_msbFirst 6 _)]
  have hnine : (msbFirst 3 f.cls.toNat ++ msbFirst 6 f.sender.toNat).length = 9 := by
    simp only [List.length_append, length_msbFirst]
  have hkind : ((headerBits f).drop 9).take 5 = msbFirst 5 f.kind.toNat := by
    rw [headerBits, List.append_assoc, List.drop_left' hnine, List.take_left' (length_msbFirst 5 _)]
  rw [frameOfBits, hcls, hsender, hkind, bytesOfBits_payloadBits, ofNat_ofMsbFirst, ofNat_ofMsbFirst, ofNat_ofMsbFirst]

theorem length_of_headerBits {f : RawFrame} (h : f.payload.length ≤ 8) :
    ofMsbFirst ((headerBits f).drop 14) = f.payload.length := by
  have hfourteen : (msbFirst 3 f.cls.toNat ++ msbFirst 6 f.sender.toNat ++ msbFirst 5 f.kind.toNat).length = 14 := by
    simp only [List.length_append, length_msbFirst]
  rw [headerBits, List.drop_left' hfourteen, ofMsbFirst_msbFirst (by omega)]

theorem judgeEnd_endField (whole : Assembly) : judgeEnd whole endField = whole := rfl

/-- Settles O5. -/
theorem sentFrameIsAssembled : Obligations.SentFrameIsAssembled := by
  intro f hlen
  have hbare : bareFrame f = (false :: headerBits f) ++ (payloadBits f.payload ++
      (msbFirst 16 (frameCheck (frameFields f)).toNat ++ [])) := by
    rw [bareFrame, frameFields_eq, List.append_nil, List.cons_append, List.append_assoc]
  have hhead : (frameBits f).head? ≠ some true := by
    rw [frameBits, bareFrame, stuffFrom, if_neg (by decide)]
    simp
  have hheader := readBits_stuffFrom (false :: headerBits f)
    (payloadBits f.payload ++ (msbFirst 16 (frameCheck (frameFields f)).toNat ++ [])) endField BitRun.start
  rw [← hbare, List.length_cons, length_headerBits] at hheader
  have hpayload := readBits_stuffFrom (payloadBits f.payload)
    (msbFirst 16 (frameCheck (frameFields f)).toNat ++ []) endField (BitRun.start.after (false :: headerBits f))
  rw [length_payloadBits] at hpayload
  have hcheck := readBits_stuffFrom (msbFirst 16 (frameCheck (frameFields f)).toNat) [] endField
    ((BitRun.start.after (false :: headerBits f)).after (payloadBits f.payload))
  rw [length_msbFirst] at hcheck
  obtain ⟨run, hlast⟩ := readLastStuff_stuffFrom endField
    (((BitRun.start.after (false :: headerBits f)).after (payloadBits f.payload)).after
      (msbFirst 16 (frameCheck (frameFields f)).toNat))
  have hdrop : (false :: headerBits f).drop 1 = headerBits f := rfl
  rw [assemble, if_neg hhead, frameBits, hheader]
  dsimp only
  rw [hdrop, length_of_headerBits hlen, if_neg (by omega), hpayload]
  dsimp only
  rw [hcheck]
  dsimp only
  rw [hlast]
  dsimp only
  rw [judgeEnd_endField, frameOfBits_headerBits, ← frameFields_eq, if_pos (ofMsbFirst_msbFirst (BitVec.isLt _))]

end Sys2Proof.Machine
end
